-- ==== Sys2Proof/Word.lean ====
section
/-! DEFINITION. The word types of the LS64: the byte of the register window, of frames and of drive messages. -/

namespace Sys2Proof

/-- One byte: a location of the register window (R182), a byte of a frame body (R138) or of a drive message (R135). -/
abbrev Byte := BitVec 8

/-- A sixteen-bit register or counter (R41, R182). -/
abbrev Word16 := BitVec 16

end Sys2Proof
end

