-- ==== Sys2Proof/Syntax.lean ====
section
/-! DEFINITION. The commands of the block: one constructor of `Instr` for each row of spec/opcode_table.json. -/

namespace Sys2Proof

/-- One of the two lanes of the fly bus. -/
inductive Lane where
  | a
  | b
deriving DecidableEq, Repr

/-- A command: an access of the controller port, an event of the drive, the plant lines, the bus or a timer, or a frame
the merger accepted. A frame row carries the source and rank fields of the frame and the bytes of its body; its class
and kind are the row's. A bit is `true` when recessive (level 1). -/
inductive Instr where
  | powerOnReset
  | pinReset
  | configWindowExpiry
  | close
  | parkRequest
  | unpark
  | ackStopRecord
  | clearCounters
  | recordWrite (addr value : Byte)
  | interruptFlagsRead (addr : Byte)
  | interruptEnablesWrite (addr value : Byte)
  | laneKindSetRead (addr : Byte)
  | directorySelection (index : Byte)
  | claimsSelection (addr value : Byte)
  | queueSelection (position : Byte)
  | counterSelection (number : Byte)
  | laneCountSelection (selection : Byte)
  | bodyDataWrite (value : Byte)
  | bodyDataRead
  | submit (value : Byte)
  | registerWrite (addr value : Byte)
  | linkCycle
  | feedback (message : List Byte)
  | feedbackMissing
  | loopInputChange (closed : Bool)
  | loopOpening
  | loopClosing
  | localStopInputChange (asserted : Bool)
  | localStop
  | localStopRelease
  | slippingBrake
  | delayExpiry
  | waitExpired
  | brakeTimeLimit
  | standstill
  | standstillTimeout
  | tripRestTimeout
  | restateWindowExpiry
  | silence (station : BitVec 7)
  | reportPeriod
  | busIdle
  | contestLost
  | contestWon
  | collision
  | frameSent
  | echoLost
  | leadEstablished (lane : Lane)
  | babble (lane : Lane) (bits : List Bool)
  | laneIdle (lane : Lane) (bits : List Bool)
  | receptionEnd (lane : Lane) (bits : List Bool)
  | skewWindowExpiry
  | tailExpiry
  | halt (source : BitVec 7) (rank : BitVec 2) (body : List Byte)
  | stop (source : BitVec 7) (rank : BitVec 2) (body : List Byte)
  | clear (source : BitVec 7) (rank : BitVec 2) (body : List Byte)
  | announce (source : BitVec 7) (rank : BitVec 2) (body : List Byte)
  | restateRequest (source : BitVec 7) (rank : BitVec 2) (body : List Byte)
  | restate (source : BitVec 7) (rank : BitVec 2) (body : List Byte)
  | claim (source : BitVec 7) (rank : BitVec 2) (body : List Byte)
  | trim (source : BitVec 7) (rank : BitVec 2) (body : List Byte)
  | release (source : BitVec 7) (rank : BitVec 2) (body : List Byte)
  | withdraw (source : BitVec 7) (rank : BitVec 2) (body : List Byte)
  | status (source : BitVec 7) (rank : BitVec 2) (body : List Byte)
  | load (source : BitVec 7) (rank : BitVec 2) (body : List Byte)
  | go (source : BitVec 7) (rank : BitVec 2) (body : List Byte)
  | resume (source : BitVec 7) (rank : BitVec 2) (body : List Byte)
  | cancel (source : BitVec 7) (rank : BitVec 2) (body : List Byte)
  | laneActive (lane : Lane)
deriving DecidableEq, Repr

end Sys2Proof
end

