-- ==== Sys2Proof/Decode.lean ====
section
/-! DEFINITION. The host's word decoder. spec/opcode_table.json gives no bits to any row of this block (its commands are
register accesses, pin, timer and bus events), so no word spells a command. -/

namespace Sys2Proof

/-- The command a word of the table spells: none, because no row of the table has bits. -/
def decodeTableWord (_nbits _w : Nat) : Option Instr := none

end Sys2Proof
end

