-- ==== Sys2Proof/Config.lean ====
section
/-! DEFINITION. The free values: what the spec leaves open, as constants nobody can evaluate. Each is applied to the
plain counter `State.free`, so every draw is a new value. -/

namespace Sys2Proof

/-- The deferral drawn at a bus collision, less one: "any value from 1 to 8 may be drawn, and no relation is assured
between successive draws" (R149). Assumption log 8. -/
opaque Config.deferralDraw : Nat → Fin 8

/-- Whether a speed that is no whole number of mm/s is rounded up: the drive message and the stop deceleration take the
profile speed "at that moment" (R117, R128) and no rule states its rounding. Assumption log 9. -/
opaque Config.speedRoundsUp : Nat → Bool

/-- The byte shifted out by a read of the mailbox body at offset 96: the access "is ignored" (R189) and no rule states
the byte. Assumption log 10. -/
opaque Config.ignoredReadByte : Nat → Byte

end Sys2Proof
end

