-- ==== Sys2Proof/Machine/State.lean ====
section
/-! DEFINITION. The state of the LS64, block by block as 00_scope 1.3 lists the blocks, and the state right after a
power-on reset. All of it is plain data. -/

namespace Sys2Proof.Machine

/-! ### Names the chapters use -/

/-- Station modes (6.1), in the order of location 0x41. -/
inductive Mode where
  | config | inert | joining | active | halted | stopped
deriving DecidableEq, Repr

/-- Motion states of the Segment Executor (5.1), in the order of R56. -/
inductive Motion where
  | idle | delaying | gated | claiming | unbraking | moving | stopping | settling | paused
deriving DecidableEq, Repr

/-- Claims views (2.7), in the order of R56. -/
inductive View where
  | sound | suspect | blind
deriving DecidableEq, Repr

/-- Freeze states of the Segment Queue (R73), in the order of R56. -/
inductive Freeze where
  | none | stop | waitExpired | voidTarget | cancelStopped
deriving DecidableEq, Repr

/-- Parked states (R80), in the order of R56; `pending` is the pending park request. -/
inductive Parked where
  | notParked | pending | parked
deriving DecidableEq, Repr

/-- Station roles (1.2). -/
inductive Role where
  | axis | desk
deriving DecidableEq, Repr

/-- Join stages (10.4), in the order of location 0x4D. -/
inductive JoinStage where
  | none | announcing | window | joined
deriving DecidableEq, Repr

/-- Lane health (9.4). -/
inductive Health where
  | good | degraded | off
deriving DecidableEq, Repr

/-- Lane modes of the station record (R148). -/
inductive LaneMode where
  | both | aOnly | bOnly
deriving DecidableEq, Repr

/-- Lead modes of the station record (R155). -/
inductive LeadMode where
  | strict | lenient
deriving DecidableEq, Repr

/-- Purposes of a motion's end (R117). -/
inductive Purpose where
  | pause | release | hold
deriving DecidableEq, Repr

/-- Refusal codes (R141), in the order the STATUS body carries them. -/
inductive RefusalCode where
  | none | authority | role | full | busy | superseded | notActive | notReady | misfiled | parked | unknownSource
deriving DecidableEq, Repr

/-- Stop causes (R125), in the order of the table there. -/
inductive StopCause where
  | operator | localStop | proximity | breach | collision | duplicate | loop | drive | following | brake | limit
deriving DecidableEq, Repr

/-- Causes a SAFE frame may carry (6.2, R138). -/
inductive SafeCause where
  | operator | localStop | proximity | breach
deriving DecidableEq, Repr

/-- Frame classes (R137), in the order of their codes. -/
inductive FrameClass where
  | safe | space | report | cue
deriving DecidableEq, Repr

/-- Frame kinds (R137), in the order of their codes 1 to 15. -/
inductive Kind where
  | halt | stop | clear | announce | restateRequest | restate | claim | trim | release | withdraw | status
  | load | go | resume | cancel
deriving DecidableEq, Repr

/-- Gate relations (R60). -/
inductive Relation where
  | above | below | still
deriving DecidableEq, Repr

/-- Brake states of a feedback (R135). -/
inductive BrakeState where
  | applied | released | moving
deriving DecidableEq, Repr

/-- Lane error kinds (R159), in the order of the kind set bytes (R182). -/
inductive LaneKind where
  | leadFlaw | leadLost | headerFixed | headerBad | bodyBad | short | noTrail | babble | overrun | missing
deriving DecidableEq, Repr

/-- Interrupt flags (R185). -/
inductive Flag where
  | modeChange | stopRecorded | laneError | refusal | claimsViewChange | configFault | writeLate | mailboxFree
  | directoryChange | claimsChange | queueChange
deriving DecidableEq, Repr

/-- The selectable counters, in the order of their numbers 0 to 35 (R187). -/
inductive Counter where
  | trimRejected | tableFull | claimsCollision | suspicion | restateMissing
  | directoryFull | silence | reportReplaced
  | cueIgnored | parkRemoved
  | waitExpired | trimDropped
  | safeIgnored | breach | safeDropped | duplicate
  | feedbackBad | feedbackMissing
  | authority | role | full | busy | superseded | notActive | notReady | misfiled | parked | unknownSource
  | malformed
  | framesSent | contestsLost | busCollision | echoLost
  | accepted | discarded | disagree
deriving DecidableEq, Repr

/-! ### Bands, claims and directory records -/

/-- A closed interval of slots or of millimetres (1.5, R9). -/
structure Band where
  lo : Int
  hi : Int
deriving DecidableEq, Repr

/-- The state of a SWEEP claim (R15). -/
inductive ClaimState where
  | held | waiting
deriving DecidableEq, Repr

/-- The kind of a claim with the fields that kind has: a STANDING is always HELD and has no precedence, cue number or
segment index (R15). -/
inductive ClaimForm where
  | standing
  | sweep (state : ClaimState) (precedence cue index : Nat)
deriving DecidableEq, Repr

/-- A claim as an ANNOUNCE, RESTATE, CLAIM or RELEASE carries it (R138). -/
structure ClaimRecord where
  form : ClaimForm
  depth : Band
  vertical : Band
deriving DecidableEq, Repr

/-- A claim of the Claims Table (R15). -/
structure Claim where
  owner : Nat
  form : ClaimForm
  depth : Band
  vertical : Band
  confirmed : Bool
deriving DecidableEq, Repr

/-- The directory record, fields role to rank of R43. -/
structure DirRecord where
  role : Role
  slot : Nat
  front : Nat
  rear : Nat
  drop : Nat
  top : Nat
  margin : Nat
  groups : BitVec 16
  companions : List Nat
  rank : Nat
deriving DecidableEq, Repr

/-- The content of one STATUS frame (R56). `active` is the active cue number and segment index. -/
structure StatusReport where
  height : Option Nat
  speed : BitVec 16
  mode : Mode
  motion : Motion
  active : Option (Nat × Nat)
  depth : Nat
  freeze : Freeze
  view : View
  lastCode : RefusalCode
  lastCue : Option Nat
  healthA : Health
  healthB : Health
  parked : Parked
deriving DecidableEq, Repr

/-- A directory entry (R43). `ageFrom` is the moment of the age timer's last restart; the age stops at the silence
limit while the entry is not PRESENT (R53). -/
structure Entry where
  number : Nat
  record : DirRecord
  present : Bool
  lastStatus : Option StatusReport
  ageFrom : Nat
deriving DecidableEq, Repr

/-! ### Segments and selectors -/

/-- A gate (R60): the threshold is present for ABOVE and BELOW. -/
structure Gate where
  peer : Nat
  relation : Relation
  threshold : Option Nat
deriving DecidableEq, Repr

/-- A segment as a LOAD carries it (R138). -/
structure CarriedSegment where
  index : Nat
  target : Nat
  speed : Nat
  accel : Nat
  decel : Nat
  precedence : Nat
  delay : Option Nat
  gate : Option Gate
  waitLimit : Option Nat
  trim : Bool
deriving DecidableEq, Repr

/-- A segment as stored after fitting (R60). -/
structure Segment where
  cue : Nat
  index : Nat
  target : Nat
  speed : Nat
  accel : Nat
  decel : Nat
  precedence : Nat
  delay : Option Nat
  gate : Option Gate
  waitLimit : Nat
  trim : Bool
  isVoid : Bool
deriving DecidableEq, Repr

/-- An entry of the Segment Queue with its bookkeeping (R62). `moved` is progress MOVED. -/
structure QueueEntry where
  segment : Segment
  specificity : Nat
  armed : Bool
  started : Bool
  moved : Bool
  cancelling : Bool
deriving DecidableEq, Repr

/-- A selector (R65). -/
inductive Selector where
  | station (n : Nat)
  | group (g : Nat)
  | span (lo hi : Nat)
  | all
deriving DecidableEq, Repr

/-! ### The blocks -/

/-- Why a record failed validation (R171). -/
inductive FaultReason where
  | unwritten | range | relation
deriving DecidableEq, Repr

/-- The Configuration Store (R169, R171): the record's 48 bytes at 0x00 to 0x2F, one written mark for each field, the
fault code as position and reason. -/
structure ConfigStore where
  image : Vector Byte 48
  written : BitVec 26
  fault : Option (Nat × FaultReason)
deriving DecidableEq, Repr

/-- The Stop Record of one episode (R125). -/
structure StopRecord where
  cause : StopCause
  source : Option Nat
  height : Option Nat
  speed : BitVec 16
  active : Option (Nat × Nat)
  motion : Motion
  timeMs : Nat
  further : Nat
deriving DecidableEq, Repr

/-- The Stop Controller with the joining procedure (R106, R173, R174). -/
structure StopController where
  mode : Mode
  record : Option StopRecord
  duplicate : Bool
  joinStage : JoinStage
  fullColumn : Bool
deriving DecidableEq, Repr

/-- The Claims Engine (R16, R17): claims by index, rising; `windowSince` is the start of a running restate window. -/
structure ClaimsEngine where
  table : List (Nat × Claim)
  view : View
  windowSince : Option Nat
deriving DecidableEq, Repr

/-- The Peer Directory (R44, R45): an entry's index is its place in the list, since entries are created at the lowest
free index and never removed. `reportDueAt` is the end of the running report period; the reporter is stopped when it is
absent (R55). -/
structure PeerDirectory where
  entries : List Entry
  reportDueAt : Option Nat
  reportDue : Bool
deriving DecidableEq, Repr

/-- The Cue Engine (R64). `cancelMoved` keeps the head's progress as it stood at the CANCEL (R77). -/
structure CueEngine where
  queue : List QueueEntry
  freeze : Freeze
  parked : Parked
  cancelMoved : Bool
deriving DecidableEq, Repr

/-- An exact speed without its sign: 10⁶ times its mm/s is `√(square / scale) - less`. The falling ramp of a triangle has no
simpler form (R95, R96). -/
structure Speed where
  square : Nat
  scale : Nat
  less : Nat
deriving DecidableEq, Repr

/-- A profile toward a target (R95) or a deceleration at rate `rate` from the exact speed `speed` toward the same target, at
which it is limited (R96, R117). `since` is the moment it began. -/
inductive Trajectory where
  | profile (start target speed accel decel since : Nat)
  | deceleration (start target : Nat) (speed : Speed) (rate since : Nat)
deriving DecidableEq, Repr

/-- A raised mark for each condition of R103. -/
structure RaisedMarks where
  following : Bool
  limit : Bool
  position : Bool
  standstill : Bool
  brake : Bool
deriving DecidableEq, Repr

/-- The frame whose echo ends the segment's execution (R93, R102, R104). -/
inductive Awaiting where
  | nothing | withdraw | release
deriving DecidableEq, Repr

/-- What a STOPPING or SETTLING executor is waiting for: the motion itself, the brake to show APPLIED, or the rest after
a trip (R101, R115, R118). -/
inductive Stage where
  | running | applying | tripped
deriving DecidableEq, Repr

/-- The Segment Executor (R84). Timers hold the moment they were started; `restSince` is the moment the motion comes to
rest (or the trip), from which the 1,000 ms run. `trimReached` is the most multiples of the trim step that the travel has
reached or passed since the hand-over: it keeps a crossing whose TRIM is still to be built (R98; assumption log 49). `tripOpen`: since
the trip no feedback has reported the brake APPLIED (R115, R124). -/
structure Executor where
  motion : Motion
  segment : Option Segment
  delayElapsed : Nat
  waitSince : Option Nat
  brakeSince : Option Nat
  standSince : Option Nat
  restSince : Option Nat
  raised : RaisedMarks
  gateLatch : Bool
  startHeight : Option Nat
  trajectory : Option Trajectory
  setpoint : Option Nat
  trimCount : Nat
  trimReached : Nat
  purpose : Option Purpose
  stage : Stage
  awaiting : Awaiting
  preMove : Option Band
  usePreMove : Bool
  tripOpen : Bool
deriving DecidableEq, Repr

/-- A feedback that passed its check (R129), with its condition byte as the drive sent it and its arrival time. -/
structure Feedback where
  height : Nat
  speed : BitVec 16
  condition : Byte
  arrival : Nat
deriving DecidableEq, Repr

/-- The slipping-brake measurement (R132): not running, running with the µs measured, or its request made. -/
inductive Slip where
  | off
  | measuring (elapsed : Nat)
  | requested
deriving DecidableEq, Repr

/-- The Drive Port (R128 to R133). -/
structure DrivePort where
  latest : Option Feedback
  missing : Bool
  torqueReq : Bool
  brakeReq : Bool
  slip : Slip
  linkOn : Bool
  nextLink : Nat
  outbound : List Byte
  loopRaw : Bool
  loopClosed : Bool
  loopSince : Option Nat
  stopRaw : Bool
  stopAsserted : Bool
  stopSince : Option Nat
deriving DecidableEq, Repr

/-- A frame the merger accepted and the decoder has not yet taken (R140). -/
structure AcceptedFrame where
  kind : Kind
  source : BitVec 7
  rank : BitVec 2
  body : List Byte
deriving DecidableEq, Repr

/-- The Frame Decoder (R141) with the accepted frames it has still to take, oldest first; `none` stands for a misfiled one, of
which nothing else is read (R137, R140). -/
structure Decoder where
  lastCode : RefusalCode
  lastCue : Option Nat
  inbox : List (Option AcceptedFrame)
deriving DecidableEq, Repr

/-- The producer of a queued frame (R142). -/
inductive Origin where
  | localStop | watch | mailbox | joining | claims | executor | reporter
deriving DecidableEq, Repr

/-- How a frame comes to be taken: from a peer, at an own echo, or from transmitted content at a lost echo (R32, R151),
with the producer of an own frame. -/
inductive Arrival where
  | peer
  | echo (origin : Origin)
  | lost (origin : Origin)
deriving DecidableEq, Repr

/-- A frame of the station's own: its content is absent until it wins where the content is built at the win (R36,
R174). -/
structure TxFrame where
  kind : Kind
  origin : Origin
  body : Option (List Byte)
  inFlight : Bool
deriving DecidableEq, Repr

/-- A class queue and its waiting list, oldest first (R142). -/
structure TxQueue where
  places : List TxFrame
  waiting : List TxFrame
deriving DecidableEq, Repr

/-- The transmit state (R147), with the class of the frame it concerns. -/
inductive TxState where
  | idle
  | contest (cls : FrameClass)
  | sending (cls : FrameClass)
  | echoWait (cls : FrameClass)
deriving DecidableEq, Repr

/-- The Transmitter (R142). -/
structure Transmitter where
  safe : TxQueue
  space : TxQueue
  report : TxQueue
  cue : TxQueue
  state : TxState
  expected : Option Kind
  echoSince : Option Nat
  deferral : Nat
deriving DecidableEq, Repr

/-- Receive states (R153). -/
inductive RecvState where
  | idle | lead | header | body | trail
deriving DecidableEq, Repr

/-- The readable header of a copy (R156): fields as received, after correction. -/
structure Header where
  cls : BitVec 2
  source : BitVec 7
  kind : BitVec 4
  rank : BitVec 2
deriving DecidableEq, Repr

/-- What a lane receiver obtains from one frame (R157, R158); `header` is absent after HEADER BAD. -/
structure Copy where
  header : Option Header
  body : List Byte
  reachesEnd : Bool
  bad : Bool
deriving DecidableEq, Repr

/-- A Lane Receiver (R153, R159, R166, R167). The lane is active exactly while its activity timer runs (R154). `buffer` is
the copy buffer: the copy of the lane's last reception until its next lead (assumption log 50). -/
structure LaneReceiver where
  recv : RecvState
  leadUp : Bool
  buffer : Option Copy
  babble : Bool
  activeSince : Option Nat
  kindSet : BitVec 10
  counts : Vector Byte 10
  health : Health
  badRun : Nat
  cleanRun : Nat
deriving DecidableEq, Repr

/-- A lane's part in an attempt (R160): lead established, reception ended, copy dropped by OVERRUN, copy held. -/
structure LanePart where
  lead : Bool
  ended : Bool
  overrun : Bool
  copy : Option Copy
deriving DecidableEq, Repr

/-- A merge attempt (R160): the deciding lanes fixed at opening, each lane's part, the lane whose copy came first, the
start of the skew window. -/
structure Attempt where
  decidingA : Bool
  decidingB : Bool
  partA : LanePart
  partB : LanePart
  firstCopy : Option Lane
  windowSince : Option Nat
deriving DecidableEq, Repr

/-- A decided attempt in its tail (R161), with the copy it accepted if it accepted one. -/
structure Tail where
  attempt : Attempt
  accepted : Option Copy
  since : Nat
deriving DecidableEq, Repr

/-- Events of the sync snapshot (R164). -/
inductive SyncEvent where
  | missingOnA | missingOnB | disagree
deriving DecidableEq, Repr

/-- The sync snapshot (R164). -/
structure SyncSnapshot where
  event : SyncEvent
  leadA : Bool
  leadB : Bool
  cleanA : Bool
  cleanB : Bool
  source : Option Nat
deriving DecidableEq, Repr

/-- The Frame Merger (R160 to R164). -/
structure Merger where
  collecting : Option Attempt
  nextA : LanePart
  nextB : LanePart
  tail : Option Tail
  snapshot : Option SyncSnapshot
deriving DecidableEq, Repr

/-- Outcomes of a submit (R188), in the order of location 0xE5. -/
inductive SubmitOutcome where
  | none | accepted | refusedBusy | refusedMode | refusedKind | refusedLength
deriving DecidableEq, Repr

/-- The transmit mailbox (R189). -/
structure Mailbox where
  kind : Byte
  length : Byte
  offset : Byte
  buffer : Vector Byte 96
  busy : Bool
  outcome : SubmitOutcome
deriving DecidableEq, Repr

/-- The Controller Port (R185 to R189): flags and enables as the registers 0x48-0x49 and 0x4A-0x4B with the first byte
in bits 7 to 0, the selections, the snapshot bytes, the mailbox, the byte last shifted out and the read captures of
R181 (location and byte). -/
structure ControllerPort where
  flags : BitVec 16
  enables : BitVec 16
  dirIndex : Byte
  dirPage : Byte
  claimsIndex : Byte
  claimsOwner : Byte
  queuePosition : Byte
  counterSelect : Byte
  laneCountSelect : Byte
  dirHead : List Byte
  dirRecord : List Byte
  dirStatus : List Byte
  claimsCopy : List Byte
  queueCopy : List Byte
  counterValue : Word16
  laneCountValue : Byte
  mailbox : Mailbox
  sdo : Byte
  captured : List Host.Cell
deriving DecidableEq, Repr

end Sys2Proof.Machine

namespace Sys2Proof.Machine

/-- The station. `now` is the time since the most recent reset in µs; `free` counts the free values drawn (the model's
own field); `pending` is the queue of commands, oldest first. -/
structure State where
  now : Nat
  free : Nat
  cfg : ConfigStore
  stop : StopController
  claims : ClaimsEngine
  dir : PeerDirectory
  cue : CueEngine
  exe : Executor
  drive : DrivePort
  dec : Decoder
  tx : Transmitter
  laneA : LaneReceiver
  laneB : LaneReceiver
  merger : Merger
  port : ControllerPort
  counters : Vector Word16 36
  pending : List Instr
deriving DecidableEq, Repr

/-- No command of this block stops it: every row has an effect, if only to leave the state as it stands. -/
inductive Fault where
deriving DecidableEq, Repr

/-- A command without a meaning. -/
inductive Refusal where
  /-- Answered by `exec` for a row that has no meaning yet; safe, since nothing is claimed of it. -/
  | notModelled (mnemonic : String)
deriving DecidableEq, Repr

/-- What a meaning answers. -/
abbrev Answer := Host.Outcome State Fault Refusal

/-! ### Reset values -/

/-- The record's default bytes (R169): brake time limit 300, ranks 3, 3 and 1, default wait limit 5,000, report period
20, silence limit 200, restate window 250; every other byte 0. -/
def ConfigStore.reset : ConfigStore where
  image := #v[0, 0, 0, 0, 0, 0, 0, 0, 0, 0, 0, 0, 0, 0, 0, 0,
    0, 0, 0, 0, 0, 0x01, 0x2C, 0, 0, 0, 0, 0, 0, 0, 0, 0,
    0, 0, 3, 3, 1, 0x13, 0x88, 20, 0x00, 200, 0x00, 250, 0, 0, 0, 0]
  written := 0b11111111111110000001011000#26
  fault := none

/-- R106, R126, R174. -/
def StopController.reset : StopController where
  mode := .config
  record := none
  duplicate := false
  joinStage := .none
  fullColumn := false

/-- R17. -/
def ClaimsEngine.reset : ClaimsEngine where
  table := []
  view := .sound
  windowSince := none

/-- R45. -/
def PeerDirectory.reset : PeerDirectory where
  entries := []
  reportDueAt := none
  reportDue := false

/-- R64. -/
def CueEngine.reset : CueEngine where
  queue := []
  freeze := .none
  parked := .notParked
  cancelMoved := false

/-- R84, R117, R119. The profile start height, to which R84 gives no reset value, is absent (DESIGN CHOICE, safe: assumption log 62). -/
def Executor.reset : Executor where
  motion := .idle
  segment := none
  delayElapsed := 0
  waitSince := none
  brakeSince := none
  standSince := none
  restSince := none
  raised := ⟨false, false, false, false, false⟩
  gateLatch := false
  startHeight := none
  trajectory := none
  setpoint := none
  trimCount := 0
  trimReached := 0
  purpose := none
  stage := .running
  awaiting := .nothing
  preMove := none
  usePreMove := false
  tripOpen := false

/-- R128, R129, R131 to R133, for the levels sampled when the reset ends. -/
def DrivePort.resetWith (loopRaw stopRaw : Bool) : DrivePort where
  latest := none
  missing := false
  torqueReq := false
  brakeReq := false
  slip := .off
  linkOn := true
  nextLink := 0
  outbound := []
  loopRaw := loopRaw
  loopClosed := loopRaw
  loopSince := none
  stopRaw := stopRaw
  stopAsserted := stopRaw
  stopSince := none

/-- R141. -/
def Decoder.reset : Decoder where
  lastCode := .none
  lastCue := none
  inbox := []

/-- R142. -/
def Transmitter.reset : Transmitter where
  safe := ⟨[], []⟩
  space := ⟨[], []⟩
  report := ⟨[], []⟩
  cue := ⟨[], []⟩
  state := .idle
  expected := none
  echoSince := none
  deferral := 0

/-- R153, R159, R168. R153 gives the activity timer no reset value: it does not run, so that a lane active through the reset reads
idle until its next LANE_ACTIVE (DESIGN CHOICE, unsafe: assumption log 54). -/
def LaneReceiver.reset : LaneReceiver where
  recv := .idle
  leadUp := false
  buffer := none
  babble := false
  activeSince := none
  kindSet := 0
  counts := Vector.replicate 10 0
  health := .good
  badRun := 0
  cleanRun := 0

/-- A lane that has taken no part in an attempt. -/
def LanePart.empty : LanePart where
  lead := false
  ended := false
  overrun := false
  copy := none

/-- R164, R168. -/
def Merger.reset : Merger where
  collecting := none
  nextA := LanePart.empty
  nextB := LanePart.empty
  tail := none
  snapshot := none

/-- R189. -/
def Mailbox.reset : Mailbox where
  kind := 0
  length := 0
  offset := 0
  buffer := Vector.replicate 96 0
  busy := false
  outcome := .none

/-- R186, R187. -/
def ControllerPort.reset : ControllerPort where
  flags := 0
  enables := 0
  dirIndex := 0
  dirPage := 0
  claimsIndex := 0
  claimsOwner := 0
  queuePosition := 0
  counterSelect := 0
  laneCountSelect := 0
  dirHead := List.replicate 4 0
  dirRecord := List.replicate 22 0
  dirStatus := List.replicate 18 0
  claimsCopy := List.replicate 30 0
  queueCopy := List.replicate 23 0
  counterValue := 0
  laneCountValue := 0
  mailbox := Mailbox.reset
  sdo := 0
  captured := []

/-- The machine right after a power-on reset (R180), with both plant inputs unconnected: the loop reads open and the
local stop released (7.7, note 2; assumption log 6). -/
def State.reset : State where
  now := 0
  free := 0
  cfg := ConfigStore.reset
  stop := StopController.reset
  claims := ClaimsEngine.reset
  dir := PeerDirectory.reset
  cue := CueEngine.reset
  exe := Executor.reset
  drive := DrivePort.resetWith false false
  dec := Decoder.reset
  tx := Transmitter.reset
  laneA := LaneReceiver.reset
  laneB := LaneReceiver.reset
  merger := Merger.reset
  port := ControllerPort.reset
  counters := Vector.replicate 36 0
  pending := []

end Sys2Proof.Machine
end

