-- ==== Sys2Proof/Machine/Flags.lean ====
section
/-! DEFINITION. Interrupt flags (R185, R186) and the selectable counters (R187, 1.5): the two ways a block reports what
it did. -/

namespace Sys2Proof.Machine

/-- The bit of a flag in the flag register: bits 0 to 7 stand at 0x48, bits 8 to 15 at 0x49 (R185). -/
def Flag.bit : Flag → Nat
  | .modeChange => 0
  | .stopRecorded => 1
  | .laneError => 2
  | .refusal => 3
  | .claimsViewChange => 4
  | .configFault => 5
  | .writeLate => 6
  | .mailboxFree => 7
  | .directoryChange => 8
  | .claimsChange => 9
  | .queueChange => 10

/-- Set a flag; setting a set flag leaves it set (R186). -/
def State.setFlag (s : State) (f : Flag) : State :=
  { s with port := { s.port with flags := s.port.flags ||| (1#16 <<< f.bit) } }

/-- The flag is set. -/
def State.flagSet (s : State) (f : Flag) : Bool := s.port.flags.getLsbD f.bit

/-- IRQN is driven low while a flag is set whose enable is also set (R186). -/
def State.irqnLow (s : State) : Bool := s.port.flags &&& s.port.enables != 0

/-- The number of a counter (R187). -/
def Counter.number : Counter → Fin 36
  | .trimRejected => 0
  | .tableFull => 1
  | .claimsCollision => 2
  | .suspicion => 3
  | .restateMissing => 4
  | .directoryFull => 5
  | .silence => 6
  | .reportReplaced => 7
  | .cueIgnored => 8
  | .parkRemoved => 9
  | .waitExpired => 10
  | .trimDropped => 11
  | .safeIgnored => 12
  | .breach => 13
  | .safeDropped => 14
  | .duplicate => 15
  | .feedbackBad => 16
  | .feedbackMissing => 17
  | .authority => 18
  | .role => 19
  | .full => 20
  | .busy => 21
  | .superseded => 22
  | .notActive => 23
  | .notReady => 24
  | .misfiled => 25
  | .parked => 26
  | .unknownSource => 27
  | .malformed => 28
  | .framesSent => 29
  | .contestsLost => 30
  | .busCollision => 31
  | .echoLost => 32
  | .accepted => 33
  | .discarded => 34
  | .disagree => 35

/-- The value of a counter. -/
def State.counter (s : State) (c : Counter) : Word16 := s.counters[c.number]

/-- Sixteen-bit counters stop at 65,535 (1.5). -/
def saturate16 (v : Word16) (n : Nat) : Word16 := BitVec.ofNat 16 (min 65535 (v.toNat + n))

/-- Lane error counts stop at 255 (1.5). -/
def saturate8 (v : Byte) : Byte := BitVec.ofNat 8 (min 255 (v.toNat + 1))

/-- Add to a counter. -/
def State.count (s : State) (c : Counter) (n : Nat) : State :=
  { s with counters := s.counters.set c.number (saturate16 (s.counter c) n) }

/-- Count one. -/
def State.bump (s : State) (c : Counter) : State := s.count c 1

/-- The counter of a refusal code (R141); NONE has none. -/
def RefusalCode.counter : RefusalCode → Option Counter
  | .none => Option.none
  | .authority => some .authority
  | .role => some .role
  | .full => some .full
  | .busy => some .busy
  | .superseded => some .superseded
  | .notActive => some .notActive
  | .notReady => some .notReady
  | .misfiled => some .misfiled
  | .parked => some .parked
  | .unknownSource => some .unknownSource

/-- Record a refusal (R141): last refusal, its counter, the REFUSAL flag. -/
def State.refuse (s : State) (code : RefusalCode) (cue : Option Nat) : State :=
  let s := { s with dec := { s.dec with lastCode := code, lastCue := cue } }
  let s := match code.counter with
    | some c => s.bump c
    | Option.none => s
  s.setFlag .refusal

/-- The bit of a kind in a lane's kind set, which is also its number in the lane count selection (R182). -/
def LaneKind.number : LaneKind → Fin 10
  | .leadFlaw => 0
  | .leadLost => 1
  | .headerFixed => 2
  | .headerBad => 3
  | .bodyBad => 4
  | .short => 5
  | .noTrail => 6
  | .babble => 7
  | .overrun => 8
  | .missing => 9

/-- A lane receiver by its lane. -/
def State.lane (s : State) : Lane → LaneReceiver
  | .a => s.laneA
  | .b => s.laneB

/-- Replace a lane receiver. -/
def State.setLane (s : State) (l : Lane) (r : LaneReceiver) : State :=
  match l with
  | .a => { s with laneA := r }
  | .b => { s with laneB := r }

/-- Record a lane error kind (R159): the kind joins the set, its count rises, and LANE ERROR is set when the set did not
hold it. -/
def State.recordKind (s : State) (l : Lane) (k : LaneKind) : State :=
  let r := s.lane l
  let fresh := !r.kindSet.getLsbD k.number
  let s := s.setLane l { r with
    kindSet := r.kindSet ||| (1#10 <<< k.number.val)
    counts := r.counts.set k.number (saturate8 r.counts[k.number]) }
  if fresh then s.setFlag .laneError else s

/-- CLEAR COUNTERS (R184): every selectable counter and the twenty lane error counts become zero, and nothing else. -/
def State.clearCounters (s : State) : State :=
  { s with
    counters := Vector.replicate 36 0
    laneA := { s.laneA with counts := Vector.replicate 10 0 }
    laneB := { s.laneB with counts := Vector.replicate 10 0 } }

end Sys2Proof.Machine
end

