-- ==== Sys2Proof/Machine/Ops.lean ====
section
/-! DEFINITION. The operations every block uses: time and timers, the fields of the station record, the reading of the
latest feedback, the mode and the view. -/

namespace Sys2Proof.Machine

/-! ### Time -/

/-- One millisecond in the µs of `State.now`. -/
def msec (n : Nat) : Nat := 1000 * n

/-- The configuration window lasts 15,000 ms (R170). -/
def configWindowUs : Nat := msec 15000
/-- The echo timer (R147). -/
def echoLimitUs : Nat := 200
/-- The skew window and the tail (R161). -/
def skewWindowUs : Nat := 4
/-- An unbroken activity longer than this is BABBLE (R154). -/
def babbleLimitUs : Nat := 300
/-- The period of the link cycle (R128). -/
def linkPeriodUs : Nat := msec 1
/-- Feedback is missing after this time (R130). -/
def feedbackLimitUs : Nat := msec 5
/-- The loop filter (R133). -/
def loopFilterUs : Nat := msec 1
/-- The local stop filter (R133). -/
def stopFilterUs : Nat := msec 10
/-- Standstill is this long below 5 mm/s (R100). -/
def standstillUs : Nat := msec 50
/-- The rest timer (R100, R115). -/
def restLimitUs : Nat := msec 1000

/-- Let time pass up to `t`; time never runs back. The delay timer counts in DELAYING while the mode is ACTIVE (R86);
every other timer is the moment it was started. -/
def State.advanceTo (s : State) (t : Nat) : State :=
  let counts := s.exe.motion == .delaying && s.stop.mode == .active
  { s with
    now := max s.now t
    exe := { s.exe with
      delayElapsed := if counts then s.exe.delayElapsed + (t - s.now) else s.exe.delayElapsed } }

/-- The moment a timer started at `since` runs out. -/
def dueAt (since : Option Nat) (limit : Nat) : Option Nat := since.map (· + limit)

/-- A timer with this deadline has run out. -/
def State.isDue (s : State) (deadline : Option Nat) : Bool :=
  match deadline with
  | some t => decide (t ≤ s.now)
  | none => false

/-- Draw the number of a free value and step the counter. -/
def State.drawn (s : State) : State := { s with free := s.free + 1 }

/-! ### The station record (R169, R182) -/

/-- The byte of the record at a location. -/
def ConfigStore.byteAt (c : ConfigStore) (a : Nat) : Byte := c.image.toList.getD a 0

/-- A one-byte field. -/
def ConfigStore.field8 (c : ConfigStore) (a : Nat) : Nat := (c.byteAt a).toNat

/-- A two-byte field, most significant byte first. -/
def ConfigStore.field16 (c : ConfigStore) (a : Nat) : Nat := 256 * c.field8 a + c.field8 (a + 1)

def ConfigStore.number (c : ConfigStore) : Nat := c.field8 0x00
def ConfigStore.roleByte (c : ConfigStore) : Nat := c.field8 0x01
def ConfigStore.slot (c : ConfigStore) : Nat := c.field8 0x02
def ConfigStore.front (c : ConfigStore) : Nat := c.field8 0x03
def ConfigStore.rear (c : ConfigStore) : Nat := c.field8 0x04
def ConfigStore.drop (c : ConfigStore) : Nat := c.field16 0x05
def ConfigStore.top (c : ConfigStore) : Nat := c.field16 0x07
def ConfigStore.margin (c : ConfigStore) : Nat := c.field16 0x09
def ConfigStore.softLow (c : ConfigStore) : Nat := c.field16 0x0B
def ConfigStore.softHigh (c : ConfigStore) : Nat := c.field16 0x0D
def ConfigStore.maxSpeed (c : ConfigStore) : Nat := c.field16 0x0F
def ConfigStore.stopDecel (c : ConfigStore) : Nat := c.field16 0x11
def ConfigStore.followLimit (c : ConfigStore) : Nat := c.field16 0x13
def ConfigStore.brakeLimit (c : ConfigStore) : Nat := c.field16 0x15
def ConfigStore.groups (c : ConfigStore) : BitVec 16 := BitVec.ofNat 16 (c.field16 0x17)
def ConfigStore.companionCount (c : ConfigStore) : Nat := c.field8 0x19
def ConfigStore.ownRank (c : ConfigStore) : Nat := c.field8 0x22
def ConfigStore.cueRankLimit (c : ConfigStore) : Nat := c.field8 0x23
def ConfigStore.clearRankLimit (c : ConfigStore) : Nat := c.field8 0x24
def ConfigStore.defaultWait (c : ConfigStore) : Nat := c.field16 0x25
def ConfigStore.reportPeriod (c : ConfigStore) : Nat := c.field8 0x27
def ConfigStore.silenceLimit (c : ConfigStore) : Nat := c.field16 0x28
def ConfigStore.restateWindow (c : ConfigStore) : Nat := c.field16 0x2A
def ConfigStore.laneModeByte (c : ConfigStore) : Nat := c.field8 0x2C
def ConfigStore.leadModeByte (c : ConfigStore) : Nat := c.field8 0x2D
def ConfigStore.trimStep (c : ConfigStore) : Nat := c.field16 0x2E

/-- The companion entries, as many as the count gives (R183). -/
def ConfigStore.companions (c : ConfigStore) : List Nat :=
  (List.range (min 8 c.companionCount)).map fun i => c.field8 (0x1A + i)

/-- The role of the record: the list is AXIS, DESK (R169). -/
def ConfigStore.role (c : ConfigStore) : Role := if c.roleByte == 1 then .desk else .axis

/-- The lane mode of the record. -/
def ConfigStore.laneMode (c : ConfigStore) : LaneMode :=
  if c.laneModeByte == 1 then .aOnly else if c.laneModeByte == 2 then .bOnly else .both

/-- The lead mode of the record. -/
def ConfigStore.leadMode (c : ConfigStore) : LeadMode := if c.leadModeByte == 1 then .lenient else .strict

/-- This station's number. -/
def State.number (s : State) : Nat := s.cfg.number

/-- The station takes part in the bus: its mode is JOINING, ACTIVE, HALTED or STOPPED. -/
def Mode.onBus : Mode → Bool
  | .config | .inert => false
  | .joining | .active | .halted | .stopped => true

/-- The station is an AXIS station that has joined or is joining. -/
def State.isAxis (s : State) : Bool := s.cfg.role == .axis

/-- The lead mode the receivers apply: STRICT before the window has ended with a valid record (R155, R172). -/
def State.leadMode (s : State) : LeadMode := if s.stop.mode.onBus then s.cfg.leadMode else .strict

/-! ### Modes and the claims view -/

/-- Change the mode; a change sets MODE CHANGE (R106). -/
def State.setMode (s : State) (m : Mode) : State :=
  if s.stop.mode = m then s else { s with stop := { s.stop with mode := m } }.setFlag .modeChange

/-- Change the claims view; a change sets CLAIMS VIEW CHANGE (2.7, note 2). -/
def State.setView (s : State) (v : View) : State :=
  if s.claims.view = v then s else { s with claims := { s.claims with view := v } }.setFlag .claimsViewChange

/-! ### The latest feedback as its readers take it (R129, R130) -/

/-- Bit 0 of the condition byte (R135). -/
def Feedback.ready (f : Feedback) : Bool := f.condition.getLsbD 0
/-- Bit 1 of the condition byte. -/
def Feedback.fault (f : Feedback) : Bool := f.condition.getLsbD 1
/-- Bit 2 of the condition byte. -/
def Feedback.positionValid (f : Feedback) : Bool := f.condition.getLsbD 2

/-- The brake state code in bits 3 and 4 (R135). -/
def brakeOf (condition : Byte) : Option BrakeState :=
  match ((condition >>> 3) &&& 3).toNat with
  | 0 => some .applied
  | 1 => some .released
  | 2 => some .moving
  | _ => none

/-- The brake state of a feedback. -/
def Feedback.brake (f : Feedback) : Option BrakeState := brakeOf f.condition

/-- The feedback its readers may trust: the latest one, unless feedback is missing (R130). -/
def State.liveFeedback (s : State) : Option Feedback := if s.drive.missing then none else s.drive.latest

/-- The actual height; absent while no feedback has passed, while feedback is missing and while it reports position not
valid (R2, R129, R130). -/
def State.actualHeight (s : State) : Option Nat :=
  match s.liveFeedback with
  | some f => if f.positionValid then some f.height else none
  | none => none

/-- The actual speed of the latest feedback; 0 when none has been received (R56, R129). -/
def State.actualSpeed (s : State) : BitVec 16 :=
  match s.drive.latest with
  | some f => f.speed
  | none => 0

/-- The latest feedback reports ready and no fault and is not missing (R112, R177). -/
def State.plantReady (s : State) : Bool :=
  match s.liveFeedback with
  | some f => f.ready && !f.fault
  | none => false

/-! ### The drive lines (R131) -/

/-- TQEN is high when its request is set and the loop, as the unfiltered level stands, is closed (R131). -/
def State.tqenLine (s : State) : Bool := s.drive.torqueReq && s.drive.loopRaw

/-- BKREL is high when its request is set and the loop, as the unfiltered level stands, is closed (R131). -/
def State.bkrelLine (s : State) : Bool := s.drive.brakeReq && s.drive.loopRaw

end Sys2Proof.Machine
end

