-- ==== Sys2Proof/Machine/Geometry.lean ====
section
/-! DEFINITION. The fly tower model of chapter 1: depth bands, occupied bands, sweep bands, the full column, the
relations between bands, overlap, companions, conflict and rank. -/

namespace Sys2Proof.Machine

/-- A intersects B (R9). -/
def Band.intersects (a b : Band) : Bool := a.lo ≤ b.hi && b.lo ≤ a.hi

/-- A is inside B (R9). -/
def Band.inside (a b : Band) : Bool := b.lo ≤ a.lo && a.hi ≤ b.hi

/-- A is covered by B and C: inside one of them, or B and C together leave no integer gap across A (R9). -/
def Band.covered (a b c : Band) : Bool :=
  a.inside b || a.inside c
    || (b.lo ≤ a.lo && c.lo ≤ b.hi + 1 && a.hi ≤ c.hi)
    || (c.lo ≤ a.lo && b.lo ≤ c.hi + 1 && a.hi ≤ b.hi)

/-- The depth band of slot and reaches, clamped to 0 to 127 (R5). -/
def depthBand (slot front rear : Nat) : Band where
  lo := max 0 ((slot : Int) - front)
  hi := min 127 ((slot : Int) + rear)

/-- The occupied band at a batten height (R6). -/
def occupiedBand (drop top margin height : Nat) : Band where
  lo := (height : Int) - drop - margin
  hi := (height : Int) + top + margin

/-- The depth band of a directory record (R5). -/
def DirRecord.depthBand (r : DirRecord) : Band := Machine.depthBand r.slot r.front r.rear

/-- The occupied band of a directory record at a height (R6). -/
def DirRecord.occupied (r : DirRecord) (height : Nat) : Band := occupiedBand r.drop r.top r.margin height

/-- This station's own depth band, from its own record (R5). -/
def State.ownDepth (s : State) : Band := depthBand s.cfg.slot s.cfg.front s.cfg.rear

/-- This station's own occupied band, from its own record (R6). -/
def State.ownOccupied (s : State) (height : Nat) : Band := occupiedBand s.cfg.drop s.cfg.top s.cfg.margin height

/-- This station's sweep band between two heights: the low edge at the lesser, the high edge at the greater (R7). -/
def State.sweepBand (s : State) (h₁ h₂ : Nat) : Band where
  lo := (s.ownOccupied (min h₁ h₂)).lo
  hi := (s.ownOccupied (max h₁ h₂)).hi

/-- The full column: the sweep band between the soft limits (R8). -/
def State.fullColumnBand (s : State) : Band := s.sweepBand s.cfg.softLow s.cfg.softHigh

/-- The occupied band at the actual height, or the full column when that height is absent (R8, R93, R115, R174). -/
def State.standingBand (s : State) : Band :=
  match s.actualHeight with
  | some h => s.ownOccupied h
  | none => s.fullColumnBand

/-- The directory entry of a station. -/
def State.entry (s : State) (n : Nat) : Option Entry := s.dir.entries.find? (·.number == n)

/-- The companion list read for a station (R11): the own record, an entry's list, or none; a DESK's is empty (R4). -/
def State.companionsOf (s : State) (n : Nat) : List Nat :=
  if n = s.number then (if s.isAxis then s.cfg.companions else [])
  else match s.entry n with
    | some e => if e.record.role = .axis then e.record.companions else []
    | none => []

/-- Two stations are companions when each names the other; none is its own (R11). -/
def State.areCompanions (s : State) (a b : Nat) : Bool :=
  a != b && (s.companionsOf a).contains b && (s.companionsOf b).contains a

/-- Two claims overlap (R10). -/
def Claim.overlaps (c d : Claim) : Bool :=
  c.owner != d.owner && c.depth.intersects d.depth && c.vertical.intersects d.vertical

/-- Two claims conflict: they overlap and their owners are not companions (R12). -/
def State.conflict (s : State) (c d : Claim) : Bool := c.overlaps d && !s.areCompanions c.owner d.owner

/-- The claim is HELD: a STANDING always is (R15). -/
def Claim.isHeld (c : Claim) : Bool :=
  match c.form with
  | .standing => true
  | .sweep st _ _ _ => st == .held

/-- The claim is a SWEEP. -/
def Claim.isSweep (c : Claim) : Bool :=
  match c.form with
  | .standing => false
  | .sweep _ _ _ _ => true

/-- The claim is a WAITING SWEEP. -/
def Claim.isWaiting (c : Claim) : Bool := !c.isHeld

/-- The precedence of a SWEEP; a STANDING has none and is never ranked (R13). -/
def Claim.precedence (c : Claim) : Nat :=
  match c.form with
  | .standing => 0
  | .sweep _ p _ _ => p

/-- `c` ranks above `d`: higher precedence, or equal precedence and lower station number (R13). -/
def Claim.ranksAbove (c d : Claim) : Bool :=
  d.precedence < c.precedence || (d.precedence == c.precedence && c.owner < d.owner)

end Sys2Proof.Machine
end

