-- ==== Sys2Proof/Machine/Operands.lean ====
section
/-! DEFINITION. Frame bodies and drive messages, byte by byte: the layouts of R135 and R138, the form checks of R137 and
R139, and the encoders written from the same tables. Byte order is decided here once: most significant byte first. -/

namespace Sys2Proof.Machine

/-! ### Bytes -/

/-- One byte of a number. -/
def byteOf (n : Nat) : Byte := BitVec.ofNat 8 n

/-- Two bytes, most significant first. -/
def bytes16 (n : Nat) : List Byte := [byteOf (n / 256), byteOf n]

/-- The two bytes of a sixteen-bit word, most significant first. -/
def bytesOfWord (w : BitVec 16) : List Byte := [w.extractLsb' 8 8, w.extractLsb' 0 8]

/-- Three bytes of a signed number, most significant first. -/
def bytes24s (i : Int) : List Byte :=
  let w := BitVec.ofInt 24 i
  [w.extractLsb' 16 8, w.extractLsb' 8 8, w.extractLsb' 0 8]

/-- The number two bytes spell. -/
def nat16 (hi lo : Byte) : Nat := 256 * hi.toNat + lo.toNat

/-- The word two bytes spell. -/
def word16 (hi lo : Byte) : BitVec 16 := hi ++ lo

/-- The signed number three bytes spell. -/
def int24 (b₂ b₁ b₀ : Byte) : Int := (b₂ ++ b₁ ++ b₀).toInt

/-! ### Kinds and classes (R137) -/

/-- The class that admits a kind. -/
def Kind.cls : Kind → FrameClass
  | .halt | .stop | .clear => .safe
  | .announce | .restateRequest | .restate | .claim | .trim | .release | .withdraw => .space
  | .status => .report
  | .load | .go | .resume | .cancel => .cue

/-- Kind codes. -/
def Kind.code : Kind → Nat
  | .halt => 1
  | .stop => 2
  | .clear => 3
  | .announce => 4
  | .restateRequest => 5
  | .restate => 6
  | .claim => 7
  | .trim => 8
  | .release => 9
  | .withdraw => 10
  | .status => 11
  | .load => 12
  | .go => 13
  | .resume => 14
  | .cancel => 15

/-- The kind of a code; code 0 is admitted by no class. -/
def Kind.ofCode (n : Nat) : Option Kind :=
  match n with
  | 1 => some .halt
  | 2 => some .stop
  | 3 => some .clear
  | 4 => some .announce
  | 5 => some .restateRequest
  | 6 => some .restate
  | 7 => some .claim
  | 8 => some .trim
  | 9 => some .release
  | 10 => some .withdraw
  | 11 => some .status
  | 12 => some .load
  | 13 => some .go
  | 14 => some .resume
  | 15 => some .cancel
  | _ => none

/-- Class codes. -/
def FrameClass.code : FrameClass → Nat
  | .safe => 0
  | .space => 1
  | .report => 2
  | .cue => 3

/-- The class of a two-bit code. -/
def FrameClass.ofCode (w : BitVec 2) : FrameClass :=
  match w.toNat with
  | 0 => .safe
  | 1 => .space
  | 2 => .report
  | _ => .cue

/-- The kind of a correctly filed frame: its class admits its kind and its source lies in 1 to 99 (R137). -/
def Header.filed (h : Header) : Option Kind :=
  match Kind.ofCode h.kind.toNat with
  | some k => if k.cls = FrameClass.ofCode h.cls ∧ 1 ≤ h.source.toNat ∧ h.source.toNat ≤ 99 then some k else none
  | none => none

/-! ### Enumerated fields: the position of the value in its list (R138, R182) -/

def Motion.code : Motion → Nat
  | .idle => 0
  | .delaying => 1
  | .gated => 2
  | .claiming => 3
  | .unbraking => 4
  | .moving => 5
  | .stopping => 6
  | .settling => 7
  | .paused => 8

def Motion.ofCode : Nat → Option Motion
  | 0 => some .idle
  | 1 => some .delaying
  | 2 => some .gated
  | 3 => some .claiming
  | 4 => some .unbraking
  | 5 => some .moving
  | 6 => some .stopping
  | 7 => some .settling
  | 8 => some .paused
  | _ => none

/-- The list of location 0x41. -/
def Mode.code : Mode → Nat
  | .config => 0
  | .inert => 1
  | .joining => 2
  | .active => 3
  | .halted => 4
  | .stopped => 5

/-- The list of R56: JOINING, ACTIVE, HALTED, STOPPED. A STATUS is built in these modes alone (R55). -/
def Mode.reportCode : Mode → Nat
  | .config | .inert | .joining => 0
  | .active => 1
  | .halted => 2
  | .stopped => 3

def Mode.ofReportCode : Nat → Option Mode
  | 0 => some .joining
  | 1 => some .active
  | 2 => some .halted
  | 3 => some .stopped
  | _ => none

def View.code : View → Nat
  | .sound => 0
  | .suspect => 1
  | .blind => 2

def View.ofCode : Nat → Option View
  | 0 => some .sound
  | 1 => some .suspect
  | 2 => some .blind
  | _ => none

def Freeze.code : Freeze → Nat
  | .none => 0
  | .stop => 1
  | .waitExpired => 2
  | .voidTarget => 3
  | .cancelStopped => 4

def Freeze.ofCode : Nat → Option Freeze
  | 0 => some .none
  | 1 => some .stop
  | 2 => some .waitExpired
  | 3 => some .voidTarget
  | 4 => some .cancelStopped
  | _ => Option.none

def Parked.code : Parked → Nat
  | .notParked => 0
  | .pending => 1
  | .parked => 2

def Parked.ofCode : Nat → Option Parked
  | 0 => some .notParked
  | 1 => some .pending
  | 2 => some .parked
  | _ => none

def Health.code : Health → Nat
  | .good => 0
  | .degraded => 1
  | .off => 2

def Health.ofCode : Nat → Option Health
  | 0 => some .good
  | 1 => some .degraded
  | 2 => some .off
  | _ => none

def JoinStage.code : JoinStage → Nat
  | .none => 0
  | .announcing => 1
  | .window => 2
  | .joined => 3

def RefusalCode.code : RefusalCode → Nat
  | .none => 0
  | .authority => 1
  | .role => 2
  | .full => 3
  | .busy => 4
  | .superseded => 5
  | .notActive => 6
  | .notReady => 7
  | .misfiled => 8
  | .parked => 9
  | .unknownSource => 10

def RefusalCode.ofCode : Nat → Option RefusalCode
  | 0 => some .none
  | 1 => some .authority
  | 2 => some .role
  | 3 => some .full
  | 4 => some .busy
  | 5 => some .superseded
  | 6 => some .notActive
  | 7 => some .notReady
  | 8 => some .misfiled
  | 9 => some .parked
  | 10 => some .unknownSource
  | _ => Option.none

def Relation.code : Relation → Nat
  | .above => 0
  | .below => 1
  | .still => 2

def Relation.ofCode : Nat → Option Relation
  | 0 => some .above
  | 1 => some .below
  | 2 => some .still
  | _ => none

def SafeCause.code : SafeCause → Nat
  | .operator => 0
  | .localStop => 1
  | .proximity => 2
  | .breach => 3

def SafeCause.ofCode : Nat → Option SafeCause
  | 0 => some .operator
  | 1 => some .localStop
  | 2 => some .proximity
  | 3 => some .breach
  | _ => none

/-- Position in the list of the Stop Record's location 0x50: 0 is NONE, then the list of R125. -/
def StopCause.code : StopCause → Nat
  | .operator => 1
  | .localStop => 2
  | .proximity => 3
  | .breach => 4
  | .collision => 5
  | .duplicate => 6
  | .loop => 7
  | .drive => 8
  | .following => 9
  | .brake => 10
  | .limit => 11

/-- The stop cause a SAFE frame's cause field names. -/
def SafeCause.stopCause : SafeCause → StopCause
  | .operator => .operator
  | .localStop => .localStop
  | .proximity => .proximity
  | .breach => .breach

def FaultReason.code : FaultReason → Nat
  | .unwritten => 1
  | .range => 2
  | .relation => 3

def SyncEvent.code : SyncEvent → Nat
  | .missingOnA => 1
  | .missingOnB => 2
  | .disagree => 3

def SubmitOutcome.code : SubmitOutcome → Nat
  | .none => 0
  | .accepted => 1
  | .refusedBusy => 2
  | .refusedMode => 3
  | .refusedKind => 4
  | .refusedLength => 5

/-! ### Ranges of R139 -/

/-- A cue number. -/
def cueInRange (n : Nat) : Bool := 1 ≤ n && n ≤ 9999

/-- A segment index. -/
def indexInRange (n : Nat) : Bool := 1 ≤ n && n ≤ 4

/-- A station number. -/
def stationInRange (n : Nat) : Bool := 1 ≤ n && n ≤ 99

/-- A depth band of a claim: edges at most 127, low at or below high (R14, R139). -/
def Band.depthOk (b : Band) : Bool := 0 ≤ b.lo && b.hi ≤ 127 && b.lo ≤ b.hi

/-- A vertical band of a claim or TRIM (R14, R139). -/
def Band.verticalOk (b : Band) : Bool := -27000 ≤ b.lo && b.hi ≤ 47000 && b.lo ≤ b.hi

/-- No number twice. -/
def noneTwice : List Nat → Bool
  | [] => true
  | n :: ns => !ns.contains n && noneTwice ns

/-! ### Selectors -/

/-- Selector operands lie in range (R139). -/
def parseSelector (form x y : Byte) : Option Selector :=
  match form.toNat with
  | 0 => if stationInRange x.toNat then some (.station x.toNat) else none
  | 1 => if x.toNat ≤ 15 then some (.group x.toNat) else none
  | 2 => if x.toNat ≤ 127 ∧ y.toNat ≤ 127 then some (.span x.toNat y.toNat) else none
  | 3 => some .all
  | _ => none

def Selector.encode : Selector → List Byte
  | .station n => [0, byteOf n, 0]
  | .group g => [1, byteOf g, 0]
  | .span lo hi => [2, byteOf lo, byteOf hi]
  | .all => [3, 0, 0]

/-! ### Claim records (14 bytes) -/

/-- The form a claim record's bytes give: the state is read where `stateRead` says, precedence, cue number and index for
a SWEEP alone (R138, R139). -/
def parseClaimForm (stateRead : Bool) (kind state precedence cueHi cueLo index : Byte) : Option ClaimForm :=
  match kind.toNat with
  | 0 => if stateRead ∧ state ≠ 0 then none else some .standing
  | 1 =>
    let cue := nat16 cueHi cueLo
    if precedence.toNat ≤ 7 && cueInRange cue && indexInRange index.toNat then
      match stateRead, state.toNat with
      | false, _ => some (.sweep .waiting precedence.toNat cue index.toNat)
      | true, 0 => some (.sweep .held precedence.toNat cue index.toNat)
      | true, 1 => some (.sweep .waiting precedence.toNat cue index.toNat)
      | true, _ => none
    else none
  | _ => none

/-- One claim record and what follows it. A STANDING in state WAITING fails where the state is read. -/
def parseClaim (stateRead : Bool) : List Byte → Option (ClaimRecord × List Byte)
  | k :: st :: dl :: dh :: l₂ :: l₁ :: l₀ :: h₂ :: h₁ :: h₀ :: p :: c₁ :: c₀ :: i :: rest =>
    let depth : Band := ⟨dl.toNat, dh.toNat⟩
    let vertical : Band := ⟨int24 l₂ l₁ l₀, int24 h₂ h₁ h₀⟩
    match parseClaimForm stateRead k st p c₁ c₀ i with
    | some form => if depth.depthOk && vertical.verticalOk then some (⟨form, depth, vertical⟩, rest) else none
    | none => none
  | _ => none

def ClaimForm.head : ClaimForm → List Byte
  | .standing => [0, 0]
  | .sweep .held _ _ _ => [1, 0]
  | .sweep .waiting _ _ _ => [1, 1]

def ClaimForm.ending : ClaimForm → List Byte
  | .standing => [0, 0, 0, 0]
  | .sweep _ p c i => byteOf p :: bytes16 c ++ [byteOf i]

def ClaimRecord.encode (r : ClaimRecord) : List Byte :=
  r.form.head ++ [byteOf r.depth.lo.toNat, byteOf r.depth.hi.toNat]
    ++ bytes24s r.vertical.lo ++ bytes24s r.vertical.hi ++ r.form.ending

/-- The kinds of two claim forms are the same. -/
def ClaimForm.sameKind : ClaimForm → ClaimForm → Bool
  | .standing, .standing => true
  | .sweep _ _ _ _, .sweep _ _ _ _ => true
  | _, _ => false

/-- Exactly `n` claim records, no two of one kind (R139). -/
def parseClaims (n : Nat) (bytes : List Byte) : Option (List ClaimRecord) :=
  match n with
  | 0 => if bytes = [] then some [] else none
  | 1 => match parseClaim true bytes with
    | some (c, []) => some [c]
    | _ => none
  | 2 => match parseClaim true bytes with
    | some (c, rest) => match parseClaim true rest with
      | some (d, []) => if c.form.sameKind d.form then none else some [c, d]
      | _ => none
    | none => none
  | _ => none

/-! ### Directory records (22 bytes) -/

/-- A directory record from the frame's source (R139): an AXIS record's geometry and companions are checked and its rank
taken as 3; a DESK record is read for role, groups and rank alone. -/
def parseDirRecord (source : Nat) : List Byte → Option (DirRecord × List Byte)
  | role :: slot :: front :: rear :: d₁ :: d₀ :: t₁ :: t₀ :: m₁ :: m₀ :: g₁ :: g₀ :: rank :: n
      :: c₀ :: c₁ :: c₂ :: c₃ :: c₄ :: c₅ :: c₆ :: c₇ :: rest =>
    let companions := ([c₀, c₁, c₂, c₃, c₄, c₅, c₆, c₇].take n.toNat).map (·.toNat)
    match role.toNat with
    | 0 =>
      if slot.toNat ≤ 127 && front.toNat ≤ 15 && rear.toNat ≤ 15 && nat16 d₁ d₀ ≤ 25000 && nat16 t₁ t₀ ≤ 5000
          && nat16 m₁ m₀ ≤ 2000 && n.toNat ≤ 8 && companions.all stationInRange && noneTwice companions
          && !companions.contains source then
        some (⟨.axis, slot.toNat, front.toNat, rear.toNat, nat16 d₁ d₀, nat16 t₁ t₀, nat16 m₁ m₀, word16 g₁ g₀,
          companions, 3⟩, rest)
      else none
    | 1 => some (⟨.desk, 0, 0, 0, 0, 0, 0, word16 g₁ g₀, [], rank.toNat⟩, rest)
    | _ => none
  | _ => none

def DirRecord.encode (r : DirRecord) : List Byte :=
  [if r.role = .axis then 0 else 1, byteOf r.slot, byteOf r.front, byteOf r.rear]
    ++ bytes16 r.drop ++ bytes16 r.top ++ bytes16 r.margin ++ bytesOfWord r.groups
    ++ [byteOf r.rank, byteOf r.companions.length]
    ++ (r.companions.map byteOf ++ List.replicate 8 0).take 8

/-- The body of an ANNOUNCE or RESTATE: directory record, claim count, claim records. -/
def parseAnnounce (source : Nat) (body : List Byte) : Option (DirRecord × List ClaimRecord) :=
  match parseDirRecord source body with
  | some (r, n :: rest) => (parseClaims n.toNat rest).map fun cs => (r, cs)
  | _ => none

def encodeAnnounce (r : DirRecord) (cs : List ClaimRecord) : List Byte :=
  r.encode ++ byteOf cs.length :: (cs.map ClaimRecord.encode).flatten

/-! ### STATUS bodies (18 bytes) -/

/-- A cue number and a segment index, both present or both absent (R138, R139). -/
def parseActive (cue index : Nat) : Option (Option (Nat × Nat)) :=
  if cue = 0 ∧ index = 0 then some none
  else if cueInRange cue && indexInRange index then some (some (cue, index))
  else none

/-- A cue number that may be absent. -/
def parseCueOrNone (cue : Nat) : Option (Option Nat) :=
  if cue = 0 then some none else if cueInRange cue then some (some cue) else none

/-- A height that may be unknown. -/
def parseHeight (h : Nat) : Option (Option Nat) :=
  if h = 65535 then some none else if h ≤ 40000 then some (some h) else none

def parseStatus : List Byte → Option StatusReport
  | [h₁, h₀, s₁, s₀, mode, motion, c₁, c₀, index, depth, freeze, view, code, r₁, r₀, la, lb, parked] => do
    let height ← parseHeight (nat16 h₁ h₀)
    let mode ← Mode.ofReportCode mode.toNat
    let motion ← Motion.ofCode motion.toNat
    let active ← parseActive (nat16 c₁ c₀) index.toNat
    let freeze ← Freeze.ofCode freeze.toNat
    let view ← View.ofCode view.toNat
    let lastCode ← RefusalCode.ofCode code.toNat
    let lastCue ← parseCueOrNone (nat16 r₁ r₀)
    let healthA ← Health.ofCode la.toNat
    let healthB ← Health.ofCode lb.toNat
    let parkedState ← Parked.ofCode parked.toNat
    if depth.toNat ≤ 4 then
      some { height, speed := word16 s₁ s₀, mode, motion, active, depth := depth.toNat, freeze, view, lastCode, lastCue,
             healthA, healthB, parked := parkedState }
    else none
  | _ => none

def StatusReport.encode (r : StatusReport) : List Byte :=
  bytes16 (r.height.getD 65535) ++ bytesOfWord r.speed ++ [byteOf r.mode.reportCode, byteOf r.motion.code]
    ++ bytes16 ((r.active.map Prod.fst).getD 0) ++ [byteOf ((r.active.map Prod.snd).getD 0), byteOf r.depth,
      byteOf r.freeze.code, byteOf r.view.code, byteOf r.lastCode.code]
    ++ bytes16 (r.lastCue.getD 0) ++ [byteOf r.healthA.code, byteOf r.healthB.code, byteOf r.parked.code]

/-! ### Segment records (19 bytes) -/

/-- A gate as carried: the peer is in 1 to 99, the threshold is read unless the relation is STILL (R138, R139). -/
def parseGate (peer relation : Byte) (threshold : Nat) : Option Gate :=
  match Relation.ofCode relation.toNat with
  | some r => if stationInRange peer.toNat then
      some ⟨peer.toNat, r, if r = .still then none else some threshold⟩ else none
  | none => none

/-- The segment record with index `want`, and what follows it. -/
def parseSegment (want : Nat) : List Byte → Option (CarriedSegment × List Byte)
  | i :: t₁ :: t₀ :: s₁ :: s₀ :: a₁ :: a₀ :: d₁ :: d₀ :: p :: has :: w₁ :: w₀ :: peer :: rel :: h₁ :: h₀ :: l₁ :: l₀
      :: rest =>
    if i.toNat = want ∧ nat16 t₁ t₀ ≤ 40000 ∧ p.toNat ≤ 7 then
      let segment (gate : Option Gate) : CarriedSegment :=
        { index := want, target := nat16 t₁ t₀, speed := nat16 s₁ s₀, accel := nat16 a₁ a₀, decel := nat16 d₁ d₀,
          precedence := p.toNat, delay := if has.getLsbD 0 then some (nat16 w₁ w₀) else none, gate,
          waitLimit := if has.getLsbD 2 then some (nat16 l₁ l₀) else none, trim := has.getLsbD 3 }
      if has.getLsbD 1 then
        (parseGate peer rel (nat16 h₁ h₀)).map fun g => (segment (some g), rest)
      else some (segment none, rest)
    else none
  | _ => none

/-- `count` segment records with indices from `want` on, and nothing after them. -/
def parseSegments : (count want : Nat) → List Byte → Option (List CarriedSegment)
  | 0, _, bytes => if bytes = [] then some [] else none
  | n + 1, want, bytes =>
    match parseSegment want bytes with
    | some (s, rest) => (parseSegments n (want + 1) rest).map (s :: ·)
    | none => none

/-- A segment record: presence bits for start delay, gate and wait limit, and the trim flag. -/
def encodeSegment (index target speed accel decel precedence : Nat) (delay : Option Nat) (gate : Option Gate)
    (waitLimit : Option Nat) (trim : Bool) : List Byte :=
  let has := (if delay.isSome then 1 else 0) + (if gate.isSome then 2 else 0) + (if waitLimit.isSome then 4 else 0)
    + (if trim then 8 else 0)
  byteOf index :: bytes16 target ++ bytes16 speed ++ bytes16 accel ++ bytes16 decel ++ [byteOf precedence, byteOf has]
    ++ bytes16 (delay.getD 0) ++ [byteOf ((gate.map (·.peer)).getD 0), byteOf ((gate.map (·.relation.code)).getD 0)]
    ++ bytes16 ((gate.bind (·.threshold)).getD 0) ++ bytes16 (waitLimit.getD 0)

def CarriedSegment.encode (g : CarriedSegment) : List Byte :=
  encodeSegment g.index g.target g.speed g.accel g.decel g.precedence g.delay g.gate g.waitLimit g.trim

/-- The record of a stored segment, as the queue window shows it (R187). -/
def Segment.encode (g : Segment) : List Byte :=
  encodeSegment g.index g.target g.speed g.accel g.decel g.precedence g.delay g.gate (some g.waitLimit) g.trim

/-! ### Whole bodies -/

/-- What a body says, kind by kind (R138). -/
inductive Content where
  | safe (selector : Selector) (cause : SafeCause)
  | announce (record : DirRecord) (claims : List ClaimRecord)
  | empty
  | claim (depth vertical : Band) (precedence cue index : Nat)
  | release (depth vertical : Band)
  | trim (cue index : Nat) (vertical : Band)
  | status (report : StatusReport)
  | load (selector : Selector) (cue : Nat) (segments : List CarriedSegment)
  | cue (selector : Selector) (cue : Nat)
deriving DecidableEq, Repr

def parseSafe : List Byte → Option Content
  | [f, x, y, c] => match parseSelector f x y, SafeCause.ofCode c.toNat with
    | some sel, some cause => some (.safe sel cause)
    | _, _ => none
  | _ => none

def parseCue : List Byte → Option Content
  | [f, x, y, c₁, c₀] => match parseSelector f x y with
    | some sel => if cueInRange (nat16 c₁ c₀) then some (.cue sel (nat16 c₁ c₀)) else none
    | none => none
  | _ => none

def parseLoad : List Byte → Option Content
  | f :: x :: y :: c₁ :: c₀ :: n :: rest => match parseSelector f x y with
    | some sel =>
      if cueInRange (nat16 c₁ c₀) && 1 ≤ n.toNat && n.toNat ≤ 4 then
        (parseSegments n.toNat 1 rest).map fun gs => .load sel (nat16 c₁ c₀) gs
      else none
    | none => none
  | _ => none

def parseTrim : List Byte → Option Content
  | [c₁, c₀, i, l₂, l₁, l₀, h₂, h₁, h₀] =>
    let vertical : Band := ⟨int24 l₂ l₁ l₀, int24 h₂ h₁ h₀⟩
    if cueInRange (nat16 c₁ c₀) && indexInRange i.toNat && vertical.verticalOk then
      some (.trim (nat16 c₁ c₀) i.toNat vertical)
    else none
  | _ => none

/-- A CLAIM's body: one claim record of kind SWEEP, its state not read. -/
def parseClaimBody (body : List Byte) : Option Content :=
  match parseClaim false body with
  | some (⟨.sweep _ p c i, depth, vertical⟩, []) => some (.claim depth vertical p c i)
  | _ => none

/-- A RELEASE's body: one claim record of kind STANDING, its state not read. -/
def parseReleaseBody (body : List Byte) : Option Content :=
  match parseClaim false body with
  | some (⟨.standing, depth, vertical⟩, []) => some (.release depth vertical)
  | _ => none

/-- The form check of R139: `none` is a malformed body. -/
def parseBody (kind : Kind) (source : Nat) (body : List Byte) : Option Content :=
  match kind with
  | .halt | .stop | .clear => parseSafe body
  | .announce | .restate => (parseAnnounce source body).map fun (r, cs) => .announce r cs
  | .restateRequest | .withdraw => if body = [] then some .empty else none
  | .claim => parseClaimBody body
  | .release => parseReleaseBody body
  | .trim => parseTrim body
  | .status => (parseStatus body).map .status
  | .load => parseLoad body
  | .go | .resume | .cancel => parseCue body

/-- The body a content is sent as; the not-read state byte of a CLAIM is sent as 0 (R138). -/
def Content.encode : Content → List Byte
  | .safe sel cause => sel.encode ++ [byteOf cause.code]
  | .announce r cs => encodeAnnounce r cs
  | .empty => []
  | .claim depth vertical p c i => (⟨.sweep .held p c i, depth, vertical⟩ : ClaimRecord).encode
  | .release depth vertical => (⟨.standing, depth, vertical⟩ : ClaimRecord).encode
  | .trim c i vertical => bytes16 c ++ byteOf i :: bytes24s vertical.lo ++ bytes24s vertical.hi
  | .status r => r.encode
  | .load sel c gs => sel.encode ++ bytes16 c ++ byteOf gs.length :: (gs.map CarriedSegment.encode).flatten
  | .cue sel c => sel.encode ++ bytes16 c

/-- The cue number a body carries, where its kind carries one and the field is there and in range (R139, R141). The active cue of a
STATUS and the cue numbers of listed claims are none of the frame's own (DEDUCED, safe: assumption log 33). -/
def carriedCue (kind : Kind) (body : List Byte) : Option Nat :=
  let field (i : Nat) : Option Nat :=
    match body[i]?, body[i + 1]? with
    | some hi, some lo => if cueInRange (nat16 hi lo) then some (nat16 hi lo) else none
    | _, _ => none
  match kind with
  | .claim => field 11
  | .trim => field 0
  | .load | .go | .resume | .cancel => field 3
  | .halt | .stop | .clear | .announce | .restateRequest | .restate | .release | .withdraw | .status => none

/-! ### Drive messages (R135) -/

/-- The 8-bit sum of bytes. -/
def byteSum (bytes : List Byte) : Byte := bytes.foldl (· + ·) 0

/-- A message with its check byte: the sum of all bytes is zero. -/
def withCheck (bytes : List Byte) : List Byte := bytes ++ [0 - byteSum bytes]

/-- A SETPOINT. -/
def setpointMessage (height : Nat) (speed : Int) : List Byte :=
  withCheck (1 :: bytes16 height ++ bytesOfWord (BitVec.ofInt 16 speed))

/-- A POLL. -/
def pollMessage : List Byte := withCheck [2, 0, 0, 0, 0]

/-- The check of a feedback message (R129): `none` is a message that fails. -/
def parseFeedback (now : Nat) : List Byte → Option Feedback
  | [k, h₁, h₀, s₁, s₀, c, sum] =>
    let f : Feedback := ⟨nat16 h₁ h₀, word16 s₁ s₀, c, now⟩
    if k.toNat = 3 ∧ byteSum [k, h₁, h₀, s₁, s₀, c, sum] = 0 ∧ (brakeOf c).isSome
        ∧ ¬(f.positionValid = true ∧ 40000 < f.height) then some f
    else none
  | _ => none

end Sys2Proof.Machine
end

