-- ==== Sys2Proof/Machine/Transmit.lean ====
section
/-! DEFINITION. The Transmitter: class queues and waiting lists (R142 to R145), what a producer may do with a frame, and
the frame's way through contest, sending and echo (R146 to R151). -/

namespace Sys2Proof.Machine

/-! ### Queues -/

/-- Places of each class queue (R142). -/
def FrameClass.capacity : FrameClass → Nat
  | .safe => 2
  | .space => 4
  | .report => 1
  | .cue => 4

def Transmitter.queue (t : Transmitter) : FrameClass → TxQueue
  | .safe => t.safe
  | .space => t.space
  | .report => t.report
  | .cue => t.cue

def Transmitter.setQueue (t : Transmitter) (c : FrameClass) (q : TxQueue) : Transmitter :=
  match c with
  | .safe => { t with safe := q }
  | .space => { t with space := q }
  | .report => { t with report := q }
  | .cue => { t with cue := q }

/-- The frames of a queue, the waiting ones last. -/
def TxQueue.frames (q : TxQueue) : List TxFrame := q.places ++ q.waiting

/-- A frame of this kind is queued, waiting or in flight (R34, R142). -/
def State.hasQueued (s : State) (k : Kind) : Bool := (s.tx.queue k.cls).frames.any (·.kind == k)

/-- The mailbox frame has taken its place: the mailbox is EMPTY and MAILBOX FREE is set (R190). -/
def State.mailboxFreed (s : State) : State :=
  { s with port := { s.port with mailbox := { s.port.mailbox with busy := false } } }.setFlag .mailboxFree

/-- Waiting frames, oldest first, take the places that are free (R142). -/
def State.fillPlaces (s : State) (c : FrameClass) : State :=
  let q := s.tx.queue c
  let n := c.capacity - q.places.length
  let moved := q.waiting.take n
  let s := { s with tx := s.tx.setQueue c ⟨q.places ++ moved, q.waiting.drop n⟩ }
  if moved.any (·.origin == .mailbox) then s.mailboxFreed else s

/-- The Transmitter takes frames of this class: not in CONFIG or INERT (R142), and of SPACE and REPORT none while the
duplicate mark is set (R124). -/
def State.takesFrames (s : State) (c : FrameClass) : Bool :=
  s.stop.mode.onBus && !(s.stop.duplicate && (c == .space || c == .report))

/-- Put a frame in its class queue; it waits when there is no room (R142). -/
def State.enqueue (s : State) (f : TxFrame) : State :=
  let c := f.kind.cls
  if s.takesFrames c then
    let q := s.tx.queue c
    { s with tx := s.tx.setQueue c { q with waiting := q.waiting ++ [f] } }.fillPlaces c
  else s

/-- The queue has a place for a frame that does not wait. -/
def State.hasRoom (s : State) (c : FrameClass) : Bool :=
  let q := s.tx.queue c
  q.places.length < c.capacity && q.waiting.isEmpty

/-- A new frame of this station, unsent. -/
def freshFrame (k : Kind) (o : Origin) (body : Option (List Byte)) : TxFrame := ⟨k, o, body, false⟩

/-- The frame at the head is contesting and is one of those `p` picks. -/
def State.contestingOne (s : State) (c : FrameClass) (p : TxFrame → Bool) : Bool :=
  s.tx.state == .contest c &&
    match (s.tx.queue c).places with
    | f :: _ => p f
    | [] => false

/-- Remove the unsent frames of a queue that `p` picks, waiting ones included; a removed frame that was contesting ends
its contest (R144, R147). -/
def State.removeUnsent (s : State) (c : FrameClass) (p : TxFrame → Bool) : State :=
  let q := s.tx.queue c
  let keep (f : TxFrame) : Bool := f.inFlight || !p f
  let state := if s.contestingOne c (fun f => !keep f) then .idle else s.tx.state
  { s with tx := { s.tx.setQueue c ⟨q.places.filter keep, q.waiting.filter keep⟩ with state } }.fillPlaces c

/-- Some unsent frame of the queue is picked by `p`. -/
def State.hasUnsent (s : State) (c : FrameClass) (p : TxFrame → Bool) : Bool :=
  (s.tx.queue c).frames.any fun f => !f.inFlight && p f

/-! ### Lanes the station judges and drives (R148) -/

/-- The lane mode of the record enables the lane; before a valid record both lanes run (R153). -/
def State.laneEnabled (s : State) (l : Lane) : Bool :=
  !s.stop.mode.onBus ||
    match s.cfg.laneMode, l with
    | .both, _ => true
    | .aOnly, l => l == .a
    | .bOnly, l => l == .b

/-- A judged lane: enabled, not DEGRADED, not ignored for BABBLE; with no such lane, every enabled one (R148). -/
def State.judged (s : State) (l : Lane) : Bool :=
  let fit (m : Lane) : Bool := s.laneEnabled m && (s.lane m).health != .degraded && !(s.lane m).babble
  if fit .a || fit .b then fit l else s.laneEnabled l

/-- The lane carries a dominant level, or did within the last 3 µs (R154). -/
def State.laneBusy (s : State) (l : Lane) : Bool := (s.lane l).activeSince.isSome

/-- Every judged lane is idle (R136, R148). -/
def State.busIsIdle (s : State) : Bool := [Lane.a, .b].all fun l => !(s.judged l && s.laneBusy l)

/-- The station sends: it contests or sends on each enabled lane (R148). -/
def State.sending (s : State) : Bool :=
  match s.tx.state with
  | .contest _ | .sending _ => true
  | .idle | .echoWait _ => false

/-- The driver enable pin of a lane, LADE or LBDE (7.7). -/
def State.laneDriven (s : State) (l : Lane) : Bool := s.sending && s.laneEnabled l

/-! ### One frame at a time (R146 to R150) -/

/-- The classes in the order in which the Transmitter looks at them (R146). -/
def classOrder : List FrameClass := [.safe, .space, .report, .cue]

/-- The highest class with an unsent frame in a place (R146). -/
def State.nextClass (s : State) : Option FrameClass :=
  classOrder.find? fun c => (s.tx.queue c).places.any fun f => !f.inFlight

/-- Change the frame at the head of a class queue. -/
def State.mapHead (s : State) (c : FrameClass) (g : TxFrame → TxFrame) : State :=
  let q := s.tx.queue c
  match q.places with
  | f :: fs => { s with tx := s.tx.setQueue c { q with places := g f :: fs } }
  | [] => s

/-- The frame in flight of a class queue. -/
def State.inFlight (s : State) (c : FrameClass) : Option TxFrame := (s.tx.queue c).places.find? (·.inFlight)

/-- The class of the frame that is contesting, being sent or awaiting its echo. -/
def TxState.cls : TxState → Option FrameClass
  | .idle => none
  | .contest c | .sending c | .echoWait c => some c

/-- The frame on its way: contesting, being sent or awaiting its echo. -/
def State.inFlightFrame (s : State) : Option TxFrame :=
  match s.tx.state with
  | .idle => none
  | .contest c => (s.tx.queue c).places.head?
  | .sending c | .echoWait c => s.inFlight c

/-- The in-flight frame leaves its queue for good, and no echo is expected (R150, R151). -/
def State.leaveFlight (s : State) (c : FrameClass) : State :=
  let q := s.tx.queue c
  { s with tx := { s.tx.setQueue c { q with places := q.places.filter (!·.inFlight) } with
      state := .idle, expected := none, echoSince := none } }.fillPlaces c

/-- The rank the Transmitter fills in: the own rank at a DESK, 3 at an AXIS (R137). -/
def State.ownRankSent (s : State) : Nat := if s.cfg.role == .desk then s.cfg.ownRank else 3

end Sys2Proof.Machine
end

