-- ==== Sys2Proof/Machine/Directory.lean ====
section
/-! DEFINITION. The Peer Directory (chapter 3): entries and records, ages and presence, the station's own record, claims
and report as frames carry them, and the STATUS reporter. -/

namespace Sys2Proof.Machine

/-! ### What the station says of itself -/

/-- The directory record built from the station record (R174, R4). -/
def State.ownRecord (s : State) : DirRecord :=
  if s.isAxis then
    ⟨.axis, s.cfg.slot, s.cfg.front, s.cfg.rear, s.cfg.drop, s.cfg.top, s.cfg.margin, s.cfg.groups, s.cfg.companions, 3⟩
  else ⟨.desk, 0, 0, 0, 0, 0, 0, s.cfg.groups, [], s.cfg.ownRank⟩

/-- A claim as a frame lists it. -/
def Claim.record (c : Claim) : ClaimRecord := ⟨c.form, c.depth, c.vertical⟩

/-- An owner's claims, STANDING first and then SWEEP (R187; for a RESTATE the order is assumption log 36). -/
def claimsOf (table : List (Nat × Claim)) (owner : Nat) : List Claim :=
  let own := table.filterMap fun (_, c) => if c.owner = owner then some c else none
  own.filter (!·.isSweep) ++ own.filter (·.isSweep)

/-- The body of a RESTATE as the Claims Table stands (R36). -/
def State.restateBody (s : State) : List Byte :=
  encodeAnnounce s.ownRecord (if s.isAxis then (claimsOf s.claims.table s.number).map Claim.record else [])

/-- The body of an ANNOUNCE as the latest feedback stands (R174). -/
def State.announceBody (s : State) : List Byte :=
  encodeAnnounce s.ownRecord (if s.isAxis then [⟨.standing, s.ownDepth, s.standingBand⟩] else [])

/-- The report of the station's condition (R56). -/
def State.buildStatus (s : State) : StatusReport where
  height := if s.isAxis then s.actualHeight else none
  speed := if s.isAxis then s.actualSpeed else 0
  mode := s.stop.mode
  motion := s.exe.motion
  active := match s.cue.queue with
    | e :: _ => if e.started then some (e.segment.cue, e.segment.index) else none
    | [] => none
  depth := s.cue.queue.length
  freeze := s.cue.freeze
  view := s.claims.view
  lastCode := s.dec.lastCode
  lastCue := s.dec.lastCue
  healthA := s.laneA.health
  healthB := s.laneB.health
  parked := s.cue.parked

/-! ### Reports (R55, R57) -/

/-- Build a STATUS and queue it. -/
def State.queueStatus (s : State) : State := s.enqueue (freshFrame .status .reporter (some s.buildStatus.encode))

/-- The reporter produces a STATUS (R57). An unsent one is replaced and counted also where the report-due mark is set and a collision has
made it unsent again, and the mark stays set (DESIGN CHOICE, unsafe: assumption log 71). -/
def State.produceStatus (s : State) : State :=
  match s.tx.report.places with
  | [] => s.queueStatus
  | f :: _ =>
    if f.inFlight then { s with dir := { s.dir with reportDue := true } }
    else ((s.removeUnsent .report fun _ => true).bump .reportReplaced).queueStatus

/-- The reporter starts: a first STATUS, and the report period timer (R55). It does not start under the duplicate mark,
which stops it until reset. -/
def State.startReporter (s : State) : State :=
  if s.stop.duplicate then s
  else
    let s := s.produceStatus
    { s with dir := { s.dir with reportDueAt := some (s.now + msec s.cfg.reportPeriod) } }

/-- A STATUS has left the queue: a report that is due is built now (R57). -/
def State.reportIfDue (s : State) : State :=
  if s.dir.reportDue && s.tx.report.places.isEmpty then
    { s with dir := { s.dir with reportDue := false } }.queueStatus
  else s

/-! ### Frames of the Claims Engine (R34, R35) -/

/-- Queue a RESTATE unless one is queued (R35, R144). Its content is built at the win (R36). -/
def State.offerRestate (s : State) : State :=
  if s.hasQueued .restate then s else s.enqueue (freshFrame .restate .claims none)

/-- Queue a RESTATE REQUEST unless one is queued (R33, R144). -/
def State.offerRequest (s : State) : State :=
  if s.hasQueued .restateRequest then s else s.enqueue (freshFrame .restateRequest .claims (some []))

/-! ### Entries -/

/-- Change the entry of a station. -/
def State.mapEntry (s : State) (n : Nat) (g : Entry → Entry) : State :=
  { s with dir := { s.dir with entries := s.dir.entries.map fun e => if e.number = n then g e else e } }

/-- Peers may take 71 places; the own entry always has room (R44, R50). -/
def State.hasPlaceFor (s : State) (n : Nat) : Bool :=
  n == s.number || (s.dir.entries.filter (·.number != s.number)).length < 71

/-- The record is in the directory, or has a place there. -/
def State.canEnter (s : State) (n : Nat) : Bool := (s.entry n).isSome || s.hasPlaceFor n

/-- Enter a directory record: replace the entry's record or create an entry at the next place (R44, R46, R47). An ANNOUNCE
makes the last STATUS absent, a RESTATE keeps it. -/
def State.enterRecord (s : State) (n : Nat) (r : DirRecord) (keepStatus : Bool) : State :=
  let s := match s.entry n with
    | some _ => s.mapEntry n fun e =>
        { e with record := r, present := true, ageFrom := s.now, lastStatus := if keepStatus then e.lastStatus else none }
    | none => { s with dir := { s.dir with entries := s.dir.entries ++ [Entry.mk n r true none s.now] } }
  s.setFlag .directoryChange

/-- Take a STATUS into its source's entry (R51, R58). -/
def State.enterStatus (s : State) (n : Nat) (r : StatusReport) : State :=
  match s.entry n with
  | some e =>
    let s := s.mapEntry n fun e => { e with lastStatus := some r, ageFrom := s.now, present := true }
    if e.present then s else s.setFlag .directoryChange
  | none => s

/-- The age an entry shows, in ms: it stops at the silence limit while the entry is SILENT (R43, R53). -/
def State.ageMs (s : State) (e : Entry) : Nat :=
  if e.present then min s.cfg.silenceLimit ((s.now - e.ageFrom) / 1000) else s.cfg.silenceLimit

/-- The moment an entry's age reaches the silence limit; a SILENT entry's age stands still (R53). -/
def State.silenceDue (s : State) (e : Entry) : Option Nat :=
  if e.present then some (e.ageFrom + msec s.cfg.silenceLimit) else none

/-- An entry becomes SILENT (R53). -/
def State.silence (s : State) (n : Nat) : State :=
  ((s.mapEntry n fun e => { e with present := false }).bump .silence).setFlag .directoryChange

end Sys2Proof.Machine
end

