-- ==== Sys2Proof/Machine/ClaimsTable.lean ====
section
/-! DEFINITION. The Claims Table as a list of indexed claims (R16), eligibility (R27), the promotion pass (R28) and the
conflicts the collision check compares (R30). -/

namespace Sys2Proof.Machine

/-- The claims of the table with their indices, rising. -/
abbrev Table := List (Nat × Claim)

/-- Enter a claim at the lowest free index from `n` on (R16). -/
def Table.insertFrom (n : Nat) (c : Claim) : Table → Table
  | [] => [(n, c)]
  | (i, d) :: rest => if n < i then (n, c) :: (i, d) :: rest else (i, d) :: Table.insertFrom (i + 1) c rest

/-- Enter a claim at the lowest free index. -/
def Table.enter (t : Table) (c : Claim) : Table := Table.insertFrom 0 c t

/-- Remove the claims `p` picks. -/
def Table.remove (t : Table) (p : Claim → Bool) : Table := t.filter fun (_, c) => !p c

/-- Change the claims of the table one by one. -/
def Table.mapClaims (t : Table) (g : Claim → Claim) : Table := t.map fun (i, c) => (i, g c)

/-- The owner's SWEEP. -/
def Table.sweepOf (t : Table) (n : Nat) : Option Claim :=
  (t.find? fun (_, c) => c.owner == n && c.isSweep).map Prod.snd

/-- The owner's STANDING. -/
def Table.standingOf (t : Table) (n : Nat) : Option Claim :=
  (t.find? fun (_, c) => c.owner == n && !c.isSweep).map Prod.snd

/-- The number of claims of the table that `p` picks. -/
def Table.countOf (t : Table) (p : Claim → Bool) : Nat := (t.filter fun (_, c) => p c).length

/-- A SWEEP made HELD; a STANDING is HELD already. -/
def Claim.promoted (c : Claim) : Claim :=
  match c.form with
  | .standing => c
  | .sweep _ p cue index => { c with form := .sweep .held p cue index }

/-- The table with every confirmed mark clear (R37). -/
def Table.unconfirmed (t : Table) : Table := Table.mapClaims t fun c => { c with confirmed := false }

/-- Two tables hold the same claims at the same indices, confirmed marks apart (R18). -/
def Table.sameClaims (t u : Table) : Bool := Table.unconfirmed t == Table.unconfirmed u

section Pass

variable (conflict : Claim → Claim → Bool)

/-- A SWEEP conflicts with no HELD claim and with no WAITING claim that ranks above it (R27). -/
def Table.eligible (t : Table) (c : Claim) : Bool :=
  t.all fun (_, d) => !(conflict d c && (d.isHeld || d.ranksAbove c))

/-- Insert an index and its claim below all that rank above it. -/
def insertByRank (x : Nat × Claim) : Table → Table
  | [] => [x]
  | y :: ys => if x.2.ranksAbove y.2 then x :: y :: ys else y :: insertByRank x ys

/-- The WAITING claims from the highest rank to the lowest (R13, R28). -/
def Table.waitingByRank (t : Table) : Table := List.foldr insertByRank [] (t.filter fun (_, c) => c.isWaiting)

/-- The claim at index `i` becomes HELD and its owner's STANDING is removed (R28). -/
def Table.promote (t : Table) (i owner : Nat) : Table :=
  Table.remove (t.map fun (j, c) => (j, if j = i then c.promoted else c)) fun c => c.owner == owner && !c.isSweep

/-- One round: each WAITING claim is considered once, against the table as it then stands (R28). -/
def passRound (t : Table) : List (Nat × Claim) → Table
  | [] => t
  | (i, c) :: rest => passRound (if t.eligible conflict c then t.promote i c.owner else t) rest

/-- Rounds until one promotes nothing; each earlier round promotes at least one claim, so as many rounds as there are
WAITING claims, and one more, are enough. -/
def passRounds : (rounds : Nat) → Table → Table
  | 0, t => t
  | n + 1, t =>
    let u := passRound conflict t t.waitingByRank
    if u = t then t else passRounds n u

/-- A promotion pass (R28). -/
def Table.pass (t : Table) : Table := passRounds conflict (t.waitingByRank.length + 1) t

/-- The pairs of R30: this station's claim kind (SWEEP or not), the other owner, the other claim's kind. -/
def Table.heldConflicts (t : Table) (self : Nat) : List (Bool × Nat × Bool) :=
  let held := (t.map Prod.snd).filter (·.isHeld)
  (held.filter (·.owner == self)).flatMap fun c =>
    (held.filter fun d => d.owner != self && conflict c d).map fun d => (c.isSweep, d.owner, d.isSweep)

end Pass

/-- The lowest of the station numbers. -/
def lowestOf : List Nat → Option Nat
  | [] => none
  | n :: ns => some (ns.foldl min n)

/-- The owner named in a COLLISION request: of the pairs that are new, the other owner of the lowest number (R31). -/
def newConflict (before after : List (Bool × Nat × Bool)) : Option Nat :=
  lowestOf ((after.filter fun x => !before.contains x).map (·.2.1))

/-- This station's SWEEP. -/
def State.ownSweep (s : State) : Option Claim := Table.sweepOf s.claims.table s.number

/-- This station's STANDING. -/
def State.ownStanding (s : State) : Option Claim := Table.standingOf s.claims.table s.number

/-- This station's SWEEP is HELD. -/
def State.ownSweepHeld (s : State) : Bool :=
  match s.ownSweep with
  | some c => c.isHeld
  | none => false

/-- Put a table in place. -/
def State.withTable (s : State) (t : Table) : State := { s with claims := { s.claims with table := t } }

/-- Run the promotion pass with the companions as the directory has them (R28). -/
def State.runPass (s : State) : State := s.withTable (Table.pass s.conflict s.claims.table)

/-- The conflicts on own HELD claims; an AXIS alone checks (R30). -/
def State.ownConflicts (s : State) : List (Bool × Nat × Bool) :=
  if s.isAxis then Table.heldConflicts s.conflict s.claims.table s.number else []

/-! ### The restate window and suspicion (R33, R37) -/

/-- The restate window begins: every confirmed mark is cleared and the timer starts (R37). -/
def State.beginWindow (s : State) : State :=
  { s with claims := { s.claims with
      table := Table.unconfirmed s.claims.table
      windowSince := some s.now } }

/-- A suspicion event (R33). -/
def State.suspicion (s : State) : State :=
  let s := s.bump .suspicion
  match s.claims.view with
  | .sound => (s.setView .suspect).offerRequest
  | .suspect => s.offerRequest
  | .blind => s

/-- Owners that still hold an unconfirmed claim (R38). -/
def Table.unconfirmedOwners (t : Table) : List Nat :=
  ((t.filter fun (_, c) => !c.confirmed).map fun (_, c) => c.owner).eraseDups

end Sys2Proof.Machine
end

