-- ==== Sys2Proof/Machine/Trajectory.lean ====
section
/-! DEFINITION. The profile of R95 and the deceleration of R117, in exact integers. Times are µs, heights mm, speeds mm/s,
accelerations mm/s². A position is whole millimetres rounded toward the profile start (R96); a speed is exact (`Speed`), and
is cut to whole mm/s for a drive message alone, with a mark that says whether anything was cut off. -/

namespace Sys2Proof.Machine

/-- The quotient rounded up; 0 for a divisor of 0. -/
def ceilDiv (n d : Nat) : Nat := (n + (d - 1)) / d

/-- The greatest `p` below `base + 2 ^ bits` with `ok p`, for an `ok` that holds at `base` and, once false, stays false:
one binary digit at a time. -/
def greatest (ok : Nat → Bool) : (bits base : Nat) → Nat
  | 0, base => base
  | b + 1, base => if ok (base + 2 ^ b) then greatest ok b (base + 2 ^ b) else greatest ok b base

/-- The square root, rounded down. -/
def isqrt (n : Nat) : Nat := greatest (fun p => p * p ≤ n) (n.log2 / 2 + 1) 0

/-- The square root, rounded up. -/
def ceilSqrt (n : Nat) : Nat :=
  let r := isqrt n
  if r * r = n then r else r + 1

/-- One million: µs in a second. -/
def second : Nat := 1000000

/-! ### Exact speeds -/

/-- At rest. -/
def Speed.rest : Speed := ⟨0, 1, 0⟩

/-- The speed `n / m` in µm/s. -/
def Speed.ratio (n m : Nat) : Speed := ⟨n * n, m * m, 0⟩

/-- The speed has fallen to rest. -/
def Speed.ended (v : Speed) : Bool := v.square ≤ v.less * v.less * v.scale

/-- The whole mm/s of the speed, with the mark of a remainder. -/
def Speed.whole (v : Speed) : Nat × Bool :=
  if v.ended then (0, false)
  else
    let w := (isqrt (v.square / v.scale) - v.less) / second
    (w, (second * w + v.less) * (second * w + v.less) * v.scale != v.square)

/-! ### The profile (R95): distance `D`, speed `v`, accel `a`, decel `d`, time `t` since its start -/

/-- The distance takes both full ramps: `v²/2a + v²/2d ≤ D`. -/
def isTrapezoid (D v a d : Nat) : Bool := v * v * (a + d) ≤ 2 * a * d * D

/-- The distance covered while accelerating, rounded down. -/
def rampUp (a t : Nat) : Nat := a * t * t / (2 * second * second)

/-- `2ad·v·10⁶` times the time left before rest, for a trapezoid. -/
def trapezoidLeft (D v a d t : Nat) : Nat := second * (2 * a * d * D + v * v * (a + d)) - 2 * a * d * v * t

/-- The distance covered by a trapezoid, rounded toward the start. -/
def trapezoidAt (D v a d t : Nat) : Nat :=
  let left := trapezoidLeft D v a d t
  let unit := 2 * a * d * v
  if a * t ≤ v * second then rampUp a t
  else if left * d ≤ v * (unit * second) then
    D - ceilDiv (d * left * left) (2 * (unit * second) * (unit * second))
  else (2 * a * v * t - v * v * second) / (2 * a * second)

/-- The length of a trapezoid in µs, rounded up. -/
def trapezoidTime (D v a d : Nat) : Nat := ceilDiv (trapezoidLeft D v a d 0) (2 * a * d * v)

/-- The speed of a trapezoid. -/
def trapezoidSpeed (D v a d t : Nat) : Speed :=
  let left := trapezoidLeft D v a d t
  let unit := 2 * a * d * v
  if a * t ≤ v * second then Speed.ratio (a * t) 1
  else if left * d ≤ v * (unit * second) then Speed.ratio (left * d) unit
  else Speed.ratio (v * second) 1

/-- A triangle is still accelerating: `a·(a + d)·t² ≤ 2dD`. -/
def triangleRising (D a d t : Nat) : Bool := a * (a + d) * t * t ≤ 2 * d * D * (second * second)

/-- The length of a triangle in µs, rounded up: the least `N` with `N²·a·d ≥ 2D(a + d)·10¹²`. -/
def triangleTime (D a d : Nat) : Nat :=
  ceilSqrt (ceilDiv (2 * D * (a + d) * (second * second)) (a * d))

/-- A falling triangle has covered at least `p`: with `k` left to go, `t + √(2k/d) ≥ √(2D(a + d)/ad)`. -/
def triangleCovers (D a d t p : Nat) : Bool :=
  let scale := second * second
  let k := D - p
  let x : Int := 2 * D * (a + d) * scale - (a * d * t * t : Nat) - (2 * a * k * scale : Nat)
  p ≤ D && (x ≤ 0 || x * x ≤ ((8 * t * t * k * a * a * d * scale : Nat) : Int))

/-- The distance covered by a triangle, rounded toward the start. -/
def triangleAt (D a d t : Nat) : Nat :=
  if triangleRising D a d t then rampUp a t
  else greatest (triangleCovers D a d t) 16 0

/-- The speed of a triangle: falling, `√(2D(a + d)d / a)` less `d` times the seconds passed. -/
def triangleSpeed (D a d t : Nat) : Speed :=
  if triangleRising D a d t then Speed.ratio (a * t) 1 else ⟨2 * D * (a + d) * d * (second * second), a, d * t⟩

/-- The length of a profile in µs. -/
def profileTime (D v a d : Nat) : Nat := if isTrapezoid D v a d then trapezoidTime D v a d else triangleTime D a d

/-- The distance a profile has covered. -/
def profileAt (D v a d t : Nat) : Nat :=
  if profileTime D v a d ≤ t then D
  else if isTrapezoid D v a d then trapezoidAt D v a d t else triangleAt D a d t

/-- The speed of a profile. -/
def profileSpeed (D v a d t : Nat) : Speed :=
  if profileTime D v a d ≤ t then Speed.rest
  else if isTrapezoid D v a d then trapezoidSpeed D v a d t else triangleSpeed D a d t

/-! ### The deceleration (R96, R117): exact speed `v` at its start, rate `s` -/

/-- The speed after `t`. -/
def Speed.slowed (v : Speed) (s t : Nat) : Speed := { v with less := v.less + s * t }

/-- The time to rest, rounded up. -/
def decelTime (v : Speed) (s : Nat) : Nat := ceilDiv (ceilSqrt (ceilDiv v.square v.scale) - v.less) s

/-- The distance to rest, rounded down: `v² / 2s`. -/
def decelLength (v : Speed) (s : Nat) : Nat :=
  if v.ended then 0
  else (v.square + v.scale * (v.less * v.less) - ceilSqrt (4 * v.scale * (v.less * v.less) * v.square))
    / (2 * s * v.scale * (second * second))

/-- The distance covered, rounded toward the start, limited by `D` (R96). -/
def decelAt (D : Nat) (v : Speed) (s t : Nat) : Nat :=
  min D (if (v.slowed s t).ended then decelLength v s
    else (isqrt (4 * t * t * v.square / v.scale) - s * t * t - 2 * v.less * t) / (2 * second * second))

/-- The speed of a deceleration: at rest once its target is reached. -/
def decelSpeed (D : Nat) (v : Speed) (s t : Nat) : Speed := if D ≤ decelAt D v s t then Speed.rest else v.slowed s t

/-! ### Trajectories -/

/-- The distance between two heights. -/
def gap (a b : Nat) : Nat := if a ≤ b then b - a else a - b

/-- The height `moved` away from `start` toward `target`. -/
def toward (start target moved : Nat) : Nat := if start ≤ target then start + moved else start - moved

/-- The position at a moment. -/
def Trajectory.heightAt (j : Trajectory) (now : Nat) : Nat :=
  match j with
  | .profile start target v a d since => toward start target (profileAt (gap start target) v a d (now - since))
  | .deceleration start target v s since => toward start target (decelAt (gap start target) v s (now - since))

/-- The exact speed at a moment, without its sign. -/
def Trajectory.exactSpeed (j : Trajectory) (now : Nat) : Speed :=
  match j with
  | .profile start target v a d since => profileSpeed (gap start target) v a d (now - since)
  | .deceleration start target v s since => decelSpeed (gap start target) v s (now - since)

/-- The speed at a moment in whole mm/s, with the mark of a remainder. -/
def Trajectory.speedAt (j : Trajectory) (now : Nat) : Nat × Bool := (j.exactSpeed now).whole

/-- The trajectory runs upward. -/
def Trajectory.upward : Trajectory → Bool
  | .profile start target _ _ _ _ => decide (start ≤ target)
  | .deceleration start target _ _ _ => decide (start ≤ target)

/-- The moment the trajectory comes to rest. -/
def Trajectory.restAt : Trajectory → Nat
  | .profile start target v a d since => since + profileTime (gap start target) v a d
  | .deceleration start target v s since =>
    let D := gap start target
    if D = 0 then since
    else if D ≤ decelLength v s then
      -- the target is reached first: the first moment the position is the target
      since + greatest (fun t => decelAt D v s t < D) 24 0 + 1
    else since + decelTime v s

end Sys2Proof.Machine
end

