-- ==== Sys2Proof/Machine/Executor.lean ====
section
/-! DEFINITION. The Segment Executor's own steps (chapter 5): taking a segment, the gate, building the CLAIM, unbraking,
the profile, trims, settling and the RELEASE. What ends an execution or stops it stands in ExecutorStops. -/

namespace Sys2Proof.Machine

/-- Change the executor. -/
def State.mapExe (s : State) (g : Executor → Executor) : State := { s with exe := g s.exe }

/-! ### The gate and the claim (R87 to R89) -/

/-- The gate is satisfied by the peer's entry as it stands (R87). The peer is never this station itself. -/
def State.gateSatisfied (s : State) (g : Gate) : Bool :=
  g.peer != s.number &&
    match s.entry g.peer with
    | some e =>
      e.present &&
        match e.lastStatus with
        | some r =>
          match r.height with
          | some h =>
            match g.relation with
            | .above => (g.threshold.getD 0) < h
            | .below => h < (g.threshold.getD 0)
            | .still => r.motion == .idle || r.motion == .paused
          | none => false
        | none => false
    | none => false

/-- Evaluate the gate in GATED with the latch clear (R87); no gate leaves the latch set. -/
def State.evaluateGate (s : State) : State :=
  match s.exe.motion, s.exe.segment with
  | .gated, some g =>
    match g.gate with
    | some gate => if s.gateSatisfied gate then s.mapExe fun e => { e with gateLatch := true } else s
    | none => s.mapExe fun e => { e with gateLatch := true }
  | _, _ => s

/-- The pre-move standing band (R119): the own STANDING as it stands, or the occupied band at the profile start. -/
def State.preMoveBand (s : State) (start : Nat) : Band :=
  match s.ownStanding with
  | some c => c.vertical
  | none => s.ownOccupied start

/-- Enter CLAIMING: fix the profile start and queue the CLAIM (R89, R119). -/
def State.enterClaiming (s : State) (g : Segment) (start : Nat) : State :=
  let body := (Content.claim s.ownDepth (s.sweepBand start g.target) g.precedence g.cue g.index).encode
  let s := s.mapExe fun e =>
    { e with motion := .claiming, startHeight := some start, awaiting := .nothing, preMove := some (s.preMoveBand start)
             usePreMove := false }
  s.enqueue (freshFrame .claim .executor (some body))

/-- GATED becomes CLAIMING when latch, mode, view and position all hold (R88). -/
def State.tryClaim (s : State) : State :=
  match s.exe.motion, s.exe.segment, s.actualHeight with
  | .gated, some g, some start =>
    if s.exe.gateLatch && s.stop.mode == .active && s.claims.view == .sound then s.enterClaiming g start else s
  | _, _, _ => s

/-- Enter GATED: the wait timer starts, the gate is evaluated, and the claim is built if nothing holds it back (R85 to
R88). -/
def State.enterGated (s : State) (latched : Bool) : State :=
  let s := s.mapExe fun e => { e with motion := .gated, waitSince := some s.now, gateLatch := latched }
  (if latched then s else s.evaluateGate).tryClaim

/-- Take a segment (R85). -/
def State.handOver (s : State) (g : Segment) (resumed moved : Bool) : State :=
  let s := s.mapExe fun e =>
    { e with segment := some g, delayElapsed := 0, waitSince := none, brakeSince := none, standSince := none
             restSince := none, gateLatch := false, trimCount := 0, trimReached := 0 }
  if !resumed && g.delay.isSome then s.mapExe fun e => { e with motion := .delaying }
  else s.enterGated (resumed && moved)

/-! ### RELEASE -/

/-- Queue a RELEASE with the own depth band; unsent TRIMs leave the queue first (R101, R144). -/
def State.queueRelease (s : State) (o : Origin) (band : Band) : State :=
  (s.removeUnsent .space (·.kind == .trim)).enqueue (freshFrame .release o (some (Content.release s.ownDepth band).encode))

/-- Queue the executor's RELEASE and await its echo. -/
def State.oweRelease (s : State) (band : Band) : State :=
  (s.queueRelease .executor band).mapExe fun e => { e with awaiting := .release }

/-! ### Unbraking and moving (R94, R95, R97) -/

/-- Enter UNBRAKING with the setpoint at the profile start; both requests are set and the brake time limit runs (R94). -/
def State.enterUnbraking (s : State) (setpoint : Option Nat) : State :=
  { s with
    exe := { s.exe with motion := .unbraking, setpoint := setpoint, brakeSince := some s.now, standSince := none, restSince := none }
    drive := { s.drive with torqueReq := true, brakeReq := true } }

/-- The claim is HELD in ACTIVE: unbrake, or settle at once where the load already stands at the target (R90, R97). -/
def State.startMove (s : State) : State :=
  match s.exe.segment, s.exe.startHeight with
  | some g, some start =>
    if start = g.target then
      (s.mapExe fun e => { e with motion := .settling, purpose := some .release, stage := .running, setpoint := none }).oweRelease
        s.standingBand
    else s.enterUnbraking (some start)
  | _, _ => s

/-- Enter MOVING on a new profile from the current setpoint to the target (R95). The rest timer runs from its end
(R100). -/
def State.enterMoving (s : State) : State :=
  match s.exe.segment, s.exe.setpoint with
  | some g, some p =>
    let j := Trajectory.profile p g.target g.speed g.accel g.decel s.now
    s.mapExe fun e =>
      { e with motion := .moving, trajectory := some j, brakeSince := none, standSince := none, restSince := some j.restAt
               purpose := none, stage := .running }
  | _, _ => s

/-- The exact speed of the profile or deceleration at this moment (R96). -/
def State.exactSpeed (s : State) : Speed :=
  match s.exe.trajectory with
  | some j => j.exactSpeed s.now
  | none => Speed.rest

/-- That speed as a drive message carries it, in whole mm/s, rounded up where the free value says so (R128; assumption log
9). -/
def State.trajectorySpeed (s : State) : Nat :=
  match s.exe.trajectory with
  | some j => let (w, cut) := j.speedAt s.now; if cut && Config.speedRoundsUp s.free then w + 1 else w
  | none => 0

/-- The speed with its sign, positive upward. -/
def State.signedSpeed (s : State) : Int :=
  match s.exe.trajectory with
  | some j => if j.upward then s.trajectorySpeed else -(s.trajectorySpeed : Int)
  | none => 0

/-- Enter STOPPING: a deceleration from the current setpoint and the exact profile speed at the stop deceleration, limited at
the target; from UNBRAKING it is at rest from its start (R96, R117). -/
def State.enterStopping (s : State) (purpose : Purpose) : State :=
  let speed := if s.exe.motion == .moving then s.exactSpeed else Speed.rest
  match s.exe.segment, s.exe.setpoint with
  | some g, some p =>
    let j := Trajectory.deceleration p g.target speed s.cfg.stopDecel s.now
    s.mapExe fun e =>
      { e with motion := .stopping, trajectory := some j, brakeSince := none, standSince := none, restSince := some j.restAt
               purpose := some purpose, stage := .running }
  | _, _ =>
    s.mapExe fun e =>
      { e with motion := .stopping, brakeSince := none, standSince := none, restSince := some s.now
               purpose := some purpose, stage := .running }

/-! ### Trims (R98, R99) -/

/-- The actual height lies at or behind the setpoint in the direction from `start` to `target` (R98). -/
def behindSetpoint (start target setpoint height : Nat) : Bool :=
  if start ≤ target then height ≤ setpoint else setpoint ≤ height

/-- Queue the TRIM of a feedback at this height, or drop it for want of room; the trim count advances (R98, R99). -/
def State.buildTrim (s : State) (g : Segment) (height : Nat) : State :=
  let body := (Content.trim g.cue g.index (s.sweepBand height g.target)).encode
  let s := if s.hasRoom .space then s.enqueue (freshFrame .trim .executor (some body)) else s.bump .trimDropped
  s.mapExe fun e => { e with trimCount := e.trimReached }

/-- Measure the travel at this feedback, keep what it has reached, and build a TRIM when a multiple of the trim step beyond the
trim count has been reached, now or before, and the load is at or behind the setpoint (R98). -/
def State.trimStepAt (s : State) (height : Nat) : State :=
  match s.exe.segment, s.exe.startHeight, s.exe.setpoint with
  | some g, some start, some p =>
    if g.trim && s.cfg.trimStep != 0 then
      let s := s.mapExe fun e => { e with trimReached := max e.trimReached (gap height start / s.cfg.trimStep) }
      if s.exe.trimCount < s.exe.trimReached && behindSetpoint start g.target p height then s.buildTrim g height else s
    else s
  | _, _, _ => s

/-! ### Settling (R101, R115, R118) -/

/-- Command brake apply; the brake time limit runs (R101, R118, R131). -/
def State.applyBrake (s : State) (motion : Motion) (purpose : Purpose) : State :=
  { s with
    exe := { s.exe with motion := motion, purpose := some purpose, stage := .applying, brakeSince := some s.now
                        standSince := none, restSince := none }
    drive := { s.drive with brakeReq := false } }

/-- Remove torque once the brake shows APPLIED (R101, R131). -/
def State.dropTorque (s : State) : State :=
  { s with drive := { s.drive with torqueReq := false }, exe := { s.exe with brakeSince := none } }

/-- Enter PAUSED with the setpoint held (R118). -/
def State.enterPaused (s : State) : State :=
  s.mapExe fun e => { e with motion := .paused, purpose := none, stage := .running, standSince := none, restSince := none }

/-- The executor as IDLE leaves it: no segment, profile, held setpoint or latch, and no timer running (R84, R102, R117,
R119). The raised marks and what was counted of the travel stay; the profile start height, which R102 does not name, is absent
(DESIGN CHOICE, safe: assumption log 62). -/
def Executor.idled (e : Executor) : Executor :=
  { Executor.reset with raised := e.raised, trimCount := e.trimCount, trimReached := e.trimReached }

/-- The band of the RELEASE after a trip (R115): the occupied band where the latest feedback is valid and at most 5 ms
old, else the full column. -/
def State.tripBand (s : State) : Band :=
  match s.liveFeedback with
  | some f => if f.positionValid && s.now ≤ f.arrival + feedbackLimitUs then s.ownOccupied f.height else s.fullColumnBand
  | none => s.fullColumnBand

/-- The 50 ms of actual speed below 5 mm/s are complete (R100, R115). -/
def State.stoodStill (s : State) : Bool := s.isDue (dueAt s.exe.standSince standstillUs)

/-- The actual speed of a feedback, without sign, is below 5 mm/s (R100). -/
def Feedback.slow (f : Feedback) : Bool := f.speed.toInt.natAbs < 5

/-- Watch the actual speed of a feedback: the 50 ms start at the first slow one and end at a faster one (R100). -/
def State.watchSpeed (s : State) (f : Feedback) : State :=
  s.mapExe fun e => { e with standSince := if f.slow then some (e.standSince.getD s.now) else none }

end Sys2Proof.Machine
end

