-- ==== Sys2Proof/Machine/CueEngine.lean ====
section
/-! DEFINITION. The Cue Engine (chapter 4): fitting, selectors, starting a head, the freeze, completion, the removal of a
cancelled cue, and parking. -/

namespace Sys2Proof.Machine

/-! ### Segments as stored (R60, R61) -/

/-- Raise or lower a value to the nearer bound. -/
def clamp (lo hi v : Nat) : Nat := max lo (min hi v)

/-- Fit a carried segment to the station's limits (R60); a target outside the soft limits makes it VOID (R61). -/
def State.fitSegment (s : State) (cue : Nat) (g : CarriedSegment) : Segment where
  cue := cue
  index := g.index
  target := g.target
  speed := clamp 10 s.cfg.maxSpeed g.speed
  accel := clamp 100 3000 g.accel
  decel := clamp 100 s.cfg.stopDecel g.decel
  precedence := g.precedence
  delay := match g.delay with
    | some d => if d = 0 then none else some (min 60000 d)
    | none => none
  gate := g.gate.map fun x => { x with threshold := x.threshold.map (min 40000) }
  waitLimit := match g.waitLimit with
    | some w => clamp 100 30000 w
    | none => s.cfg.defaultWait
  trim := g.trim
  isVoid := decide (g.target < s.cfg.softLow ∨ s.cfg.softHigh < g.target)

/-- The specificity of a selector (R65). -/
def Selector.specificity : Selector → Nat
  | .station _ => 4
  | .group _ => 3
  | .span _ _ => 2
  | .all => 1

/-- The selector selects this station (R65). -/
def State.selects (s : State) : Selector → Bool
  | .station n => n == s.number
  | .group g => s.cfg.groups.getLsbD g
  | .span lo hi => s.isAxis && lo ≤ s.cfg.slot && s.cfg.slot ≤ hi
  | .all => s.isAxis

/-! ### The queue -/

/-- Change the Cue Engine. -/
def State.mapCue (s : State) (g : CueEngine → CueEngine) : State := { s with cue := g s.cue }

/-- Replace the queue's entries; the change sets QUEUE CHANGE (R63). -/
def State.withQueue (s : State) (q : List QueueEntry) : State := (s.mapCue fun c => { c with queue := q }).setFlag .queueChange

/-- The entry belongs to cue N. -/
def QueueEntry.ofCue (e : QueueEntry) (n : Nat) : Bool := e.segment.cue == n

/-- The cue stands in the queue. -/
def State.holdsCue (s : State) (n : Nat) : Bool := s.cue.queue.any (·.ofCue n)

/-- Any of the cue's segments is started (R68, note 1). -/
def State.cueStarted (s : State) (n : Nat) : Bool := s.cue.queue.any fun e => e.ofCue n && e.started

/-- The cue number at the head. -/
def State.headCue (s : State) : Option Nat := s.cue.queue.head?.map (·.segment.cue)

/-- The queue is frozen. -/
def State.frozen (s : State) : Bool := s.cue.freeze != .none

/-- The queue holds a started segment or is frozen (R80). -/
def State.inCue (s : State) : Bool := s.frozen || s.cue.queue.any (·.started)

/-- Set the freeze state; a change sets QUEUE CHANGE (R63, R73). -/
def State.setFreeze (s : State) (f : Freeze) : State :=
  if s.cue.freeze = f then s else (s.mapCue fun c => { c with freeze := f }).setFlag .queueChange

/-- Freeze for a cause; a frozen queue keeps its cause (R73). -/
def State.freezeFor (s : State) (f : Freeze) : State := if s.frozen then s else s.setFreeze f

/-- The Stop Controller's request: granted when the head segment is started (R74). -/
def State.freezeOnStop (s : State) : State :=
  match s.cue.queue with
  | e :: _ => if e.started then s.freezeFor .stop else s
  | [] => s

/-- Set the parked state; a change sets QUEUE CHANGE (R80). -/
def State.setParked (s : State) (p : Parked) : State :=
  if s.cue.parked = p then s else (s.mapCue fun c => { c with parked := p }).setFlag .queueChange

/-- Starting is possible in the modes ACTIVE and HALTED (R72, R75, R77). -/
def Mode.starts : Mode → Bool
  | .active | .halted => true
  | .config | .inert | .joining | .stopped => false

/-- Start the head segment: mark it started and hand it over; a VOID one freezes the queue instead (R61, R71, R79). -/
def State.startHead (s : State) (resumed : Bool) : State :=
  match s.cue.queue with
  | [] => s
  | e :: rest =>
    let s := s.withQueue ({ e with started := true } :: rest)
    if e.segment.isVoid then s.freezeFor .voidTarget else s.handOver e.segment resumed e.moved

/-- Start the head if the queue is not frozen, the mode lets it and its cue is armed (R72, R75, R77). -/
def State.startIfArmed (s : State) : State :=
  match s.cue.queue with
  | e :: _ => if e.armed && s.stop.mode.starts && !s.frozen then s.startHead false else s
  | [] => s

/-- A pending park request takes effect if the queue holds no started segment and is not frozen: segments of lower
specificity leave and are counted (R81). -/
def State.parkEffect (s : State) : State :=
  if s.cue.parked == .pending && !s.inCue then
    let leaving := s.cue.queue.filter (·.specificity < 4)
    ((s.withQueue (s.cue.queue.filter (4 ≤ ·.specificity))).count .parkRemoved leaving.length).setParked .parked
  else s

/-- A cancelled cue leaves the queue, and the freeze of what remains is decided (R77). -/
def State.cueLeaves (s : State) (n : Nat) (moved : Bool) : State :=
  let rest := s.cue.queue.filter (!·.ofCue n)
  let s := (s.withQueue rest).setFreeze (if moved && !rest.isEmpty then .cancelStopped else .none)
  s.parkEffect.startIfArmed

/-- The head segment has completed (R72). -/
def State.completeHead (s : State) : State :=
  match s.cue.queue with
  | [] => s
  | e :: rest =>
    let s := s.withQueue rest
    match rest with
    | next :: _ =>
      if next.segment.cue = e.segment.cue then s.startHead false else s.parkEffect.startIfArmed
    | [] => s.parkEffect

/-- The executor reports that it has completed, or finished with, the head segment: a cancelling cue leaves (R76), a
frozen head stays (R72), any other head has completed (R72). -/
def State.cueDone (s : State) : State :=
  match s.cue.queue with
  | [] => s
  | e :: _ =>
    if e.cancelling then s.cueLeaves e.segment.cue s.cue.cancelMoved
    else if s.frozen then s
    else s.completeHead

/-- The executor becomes IDLE and reports to the Cue Engine (R93, R102, R104, R115, R124). -/
def State.finishSegment (s : State) : State := (s.mapExe Executor.idled).cueDone

end Sys2Proof.Machine
end

