-- ==== Sys2Proof/Machine/ExecutorStops.lean ====
section
/-! DEFINITION. What ends or overtakes a segment's execution: the reports of the Claims Engine (R90), giving up a claim
(R92, R93), the four columns of the table in 6.5, and the echoes of the executor's frames (R93, R102, R115). -/

namespace Sys2Proof.Machine

/-- Queue a WITHDRAW and await its echo (R92). -/
def State.oweWithdraw (s : State) : State :=
  (s.enqueue (freshFrame .withdraw .executor (some []))).mapExe fun e => { e with awaiting := .withdraw }

/-- Stop wanting the claim of CLAIMING (R92, R104): no frame under the duplicate mark (R124); an unsent CLAIM is removed
and ends it; otherwise a WITHDRAW is queued, unless one is owed already. -/
def State.giveUpClaim (s : State) : State :=
  let s := s.mapExe fun e => { e with waitSince := none }
  match s.exe.awaiting with
  | .withdraw | .release => s
  | .nothing =>
    if s.stop.duplicate then s.finishSegment
    else if s.hasUnsent .space (·.kind == .claim) then (s.removeUnsent .space (·.kind == .claim)).finishSegment
    else s.oweWithdraw

/-! ### The columns of 6.5 -/

/-- The purpose a STOP or CANCEL sets: HOLD under the duplicate mark, which no later stop changes, else RELEASE (R117,
R124). -/
def State.stopPurpose (s : State) : Purpose :=
  if s.stop.duplicate || s.exe.purpose == some .hold then .hold else .release

/-- After a trip a feedback has reported the brake APPLIED, and the RELEASE is still to be queued (R115, R124). -/
def State.brakedAfterTrip (s : State) : Bool :=
  s.exe.stage == .tripped && s.exe.awaiting == .nothing && !s.exe.tripOpen

/-- The columns STOP and CANCEL (6.5): they differ only in the mode and the freeze, which the caller sees to. Under the
duplicate mark no frame is queued, and the executor is IDLE at once where the brake holds the load, after a trip once a feedback
has reported it APPLIED (R124). -/
def State.executorStop (s : State) : State :=
  match s.exe.motion with
  | .idle => s
  | .delaying | .gated => s.finishSegment
  | .claiming => s.giveUpClaim
  | .unbraking => (s.mapExe fun e => { e with usePreMove := true }).applyBrake .settling s.stopPurpose
  | .moving => s.enterStopping s.stopPurpose
  | .stopping =>
    match s.exe.stage with
    | .applying => s.applyBrake .settling s.stopPurpose
    | .running | .tripped => s.mapExe fun e => { e with purpose := some s.stopPurpose }
  | .settling =>
    if s.stop.duplicate then
      if s.brakedAfterTrip then s.finishSegment else s.mapExe fun e => { e with purpose := some .hold }
    else s
  | .paused =>
    if s.stop.duplicate then s.finishSegment
    else (s.mapExe fun e => { e with motion := .settling, purpose := some .release, stage := .running }).oweRelease
      s.standingBand

/-- The column HALT (6.5, R109). -/
def State.executorHalt (s : State) : State :=
  match s.exe.motion with
  | .unbraking | .moving => s.enterStopping .pause
  | .idle | .delaying | .gated | .claiming | .stopping | .settling | .paused => s

/-- The Drive Port trips: both requests are cleared (R113, R131). -/
def State.trip (s : State) : State := { s with drive := { s.drive with torqueReq := false, brakeReq := false } }

/-- In SETTLING after a trip, before the RELEASE and before a feedback has reported the brake APPLIED (R115, R124). -/
def State.enterTripped (s : State) : State :=
  s.mapExe fun e =>
    { e with motion := .settling, purpose := some (if s.stop.duplicate then .hold else .release), stage := .tripped
             brakeSince := none, standSince := none, restSince := some s.now, usePreMove := false
             tripOpen := true }

/-- The RELEASE that a trip owes is queued (R115). -/
def State.releaseAfterTrip (s : State) : State :=
  (s.mapExe fun e => { e with stage := .running, restSince := none, standSince := none }).oweRelease s.tripBand

/-- The column of an immediate stop (6.5, R115), once the drive has tripped. A further trip in SETTLING queues the RELEASE at once
where the brake has been reported APPLIED, and else restarts nothing (assumption log 18). -/
def State.executorTrip (s : State) : State :=
  match s.exe.motion with
  | .idle => s
  | .delaying | .gated => s.finishSegment
  | .claiming => s.giveUpClaim
  | .unbraking | .moving | .stopping => s.enterTripped
  | .settling =>
    if s.brakedAfterTrip then if s.stop.duplicate then s.finishSegment else s.releaseAfterTrip
    else if s.exe.awaiting == .release || s.exe.stage == .tripped then s
    else s.enterTripped
  | .paused =>
    if s.stop.duplicate then s.finishSegment
    else (s.mapExe fun e => { e with motion := .settling, purpose := some .release, stage := .running }).oweRelease s.tripBand

/-! ### Reports on the own SWEEP and the change of mode to ACTIVE (R90, R111) -/

/-- The executor is in CLAIMING and still wants its claim (R90). -/
def State.wantsClaim (s : State) : Bool := s.exe.motion == .claiming && s.exe.awaiting == .nothing

/-- The own SWEEP is reported HELD (R90). -/
def State.reportHeld (s : State) : State :=
  if s.wantsClaim then
    let s := s.mapExe fun e => { e with waitSince := none }
    if s.stop.mode = .active then s.startMove else s
  else s

/-- The mode has become ACTIVE: GATED may claim, a HELD claim unbrakes, PAUSED unbrakes with the held setpoint (R88, R90,
R111). -/
def State.resumeMotion (s : State) : State :=
  match s.exe.motion with
  | .gated => s.tryClaim
  | .claiming => if s.wantsClaim && s.ownSweepHeld && s.exe.waitSince.isNone then s.startMove else s
  | .paused => s.enterUnbraking s.exe.setpoint
  | .idle | .delaying | .unbraking | .moving | .stopping | .settling => s

/-- The mode becomes ACTIVE. -/
def State.becomeActive (s : State) : State := (s.setMode .active).resumeMotion

/-! ### Ends of motion -/

/-- A feedback after a trip that reports APPLIED (R115, R124). -/
def State.noteBrake (s : State) (f : Feedback) : State :=
  if f.brake = some .applied then s.mapExe fun e => { e with tripOpen := false } else s

/-- The brake of a SETTLING executor has applied: torque is removed, and the RELEASE is queued with the band at the actual
height or with the pre-move band (R101, R119); under HOLD the executor is IDLE (R118, R124). -/
def State.settled (s : State) : State :=
  let s := s.dropTorque
  if s.stop.duplicate || s.exe.purpose == some .hold then s.finishSegment
  else
    let band := match s.exe.usePreMove, s.exe.preMove with
      | true, some b => b
      | _, _ => s.standingBand
    (s.mapExe fun e => { e with stage := .running }).oweRelease band

/-- The brake of a pause has applied: PAUSED, and on to UNBRAKING when the mode is ACTIVE again (R118). -/
def State.pauseApplied (s : State) : State :=
  let s := s.dropTorque.enterPaused
  if s.stop.mode = .active then s.resumeMotion else s

/-- Standstill (R100, R115, R118). -/
def State.standstillReached (s : State) : State :=
  match s.exe.motion, s.exe.stage with
  | .moving, _ => s.applyBrake .settling .release
  | .stopping, .running =>
    match s.exe.purpose with
    | some .pause => if s.stop.mode = .active then s.enterMoving else s.applyBrake .stopping .pause
    | some .hold => s.applyBrake .settling .hold
    | some .release | none => s.applyBrake .settling .release
  | .settling, .tripped =>
    if s.stop.duplicate || s.exe.purpose == some .hold then s
    else s.releaseAfterTrip
  | _, _ => s

/-- 1,000 ms after a trip without standstill (R115). -/
def State.tripRested (s : State) : State :=
  match s.exe.motion, s.exe.stage with
  | .settling, .tripped => s.standstillReached
  | _, _ => s

/-! ### Echoes of the executor's frames -/

/-- The echo of its WITHDRAW (R93): IDLE with a STANDING in the table, else a RELEASE restores one. -/
def State.withdrawEchoed (s : State) : State :=
  if s.exe.awaiting = .withdraw then
    if s.ownStanding.isSome || s.stop.duplicate then s.finishSegment else s.oweRelease s.standingBand
  else s

/-- The echo of its RELEASE (R93, R102, R115). -/
def State.releaseEchoed (s : State) : State := if s.exe.awaiting = .release then s.finishSegment else s

/-- Hold the load until a feedback reports the brake APPLIED, with no frame owed (R124). -/
def Executor.holding (e : Executor) : Executor :=
  { e with purpose := some .hold, stage := .tripped, awaiting := .nothing, standSince := none, restSince := none }

/-- A WITHDRAW or RELEASE of the executor has been removed by the duplicate mark: the executor is IDLE at once, or, where the
RELEASE was queued after a trip before a feedback reported the brake APPLIED, at the feedback that does (R124). -/
def State.frameTakenAway (s : State) : State :=
  let owed := s.exe.awaiting != .nothing
    && !s.tx.space.frames.any fun f => f.origin == .executor && (f.kind == .withdraw || f.kind == .release)
  if owed then
    if s.exe.motion == .settling && s.exe.tripOpen then s.mapExe Executor.holding else s.finishSegment
  else s

end Sys2Proof.Machine
end

