-- ==== Sys2Proof/Machine/StopRequests.lean ====
section
/-! DEFINITION. The Stop Controller's requests (R107): controlled and immediate stops, HALT and CLEAR, the duplicate event
(R124), the local stop (R116) and the Stop Record (R125). -/

namespace Sys2Proof.Machine

/-- The time field: ms since the most recent reset, saturating (R125). -/
def State.timeMs (s : State) : Nat := min 4294967295 (s.now / 1000)

/-- Cue and index of the head segment when it is started (R56, R125). -/
def State.activeCue (s : State) : Option (Nat × Nat) :=
  match s.cue.queue with
  | e :: _ => if e.started then some (e.segment.cue, e.segment.index) else none
  | [] => none

/-- The record of an episode that opens now (R125). -/
def State.episode (s : State) (cause : StopCause) (source : Option Nat) : StopRecord where
  cause := cause
  source := source
  height := s.actualHeight
  speed := s.actualSpeed
  active := s.activeCue
  motion := s.exe.motion
  timeMs := s.timeMs
  further := 0

/-- Open an episode: record, mode STOPPED, flags, freeze request (R110, R125). -/
def State.openEpisode (s : State) (cause : StopCause) (source : Option Nat) : State :=
  let s := { s with stop := { s.stop with record := some (s.episode cause source) } }
  ((s.setMode .stopped).setFlag .stopRecorded).freezeOnStop

/-- A later request in STOPPED adds one to further causes; an emptied record has nothing to add to (R125, R126). -/
def State.addCause (s : State) : State :=
  match s.stop.record with
  | some r => { s with stop := { s.stop with record := some { r with further := min 65535 (r.further + 1) } } }
  | none => s

/-- A controlled stop (R107, R110, R120). -/
def State.controlledStop (s : State) (cause : StopCause) (source : Option Nat) : State :=
  if s.isAxis then
    match s.stop.mode with
    | .config | .inert => s
    | .joining | .active | .halted => (s.openEpisode cause source).executorStop
    | .stopped => s.addCause.executorStop
  else s

/-- An immediate stop (R107, R113). -/
def State.immediateStop (s : State) (cause : StopCause) : State :=
  if s.isAxis then
    match s.stop.mode with
    | .config | .inert => s
    | .joining | .active | .halted => (s.openEpisode cause none).trip.executorTrip
    | .stopped => s.addCause.trip.executorTrip
  else s

/-- A HALT addressed to this AXIS station (R107, R109). -/
def State.takeHalt (s : State) : State :=
  match s.stop.mode with
  | .config | .inert => s
  | .active => (s.setMode .halted).executorHalt
  | .joining | .halted | .stopped => s.bump .safeIgnored

/-- The tests of R112 in STOPPED. -/
def State.clearReady (s : State) : Bool :=
  s.drive.loopClosed && s.plantReady && !s.stop.duplicate && s.stop.joinStage == .joined

/-- A CLEAR that has passed the tests of source, role and rank (R108, R111, R112). -/
def State.takeClear (s : State) : State :=
  match s.stop.mode with
  | .config | .inert => s
  | .joining | .active => s.bump .safeIgnored
  | .halted => s.becomeActive
  | .stopped => if s.clearReady then s.setMode .active else s.refuse .notReady none

/-- Remove every unsent SPACE and REPORT frame (R124, R144, R145). -/
def State.dropReservations (s : State) : State := (s.removeUnsent .space fun _ => true).removeUnsent .report fun _ => true

/-- A duplicate event (R124): the first sets the mark, stops the reporter and clears the queues; every one is counted and
stops an AXIS. -/
def State.duplicateEvent (s : State) : State :=
  if s.stop.mode.onBus then
    let s := { s with stop := { s.stop with duplicate := true } }.bump .duplicate
    let s := s.controlledStop .duplicate none
    let s := { s.dropReservations with dir := { s.dir with reportDueAt := none, reportDue := false } }
    s.frameTakenAway
  else s

/-- The body of a SAFE frame. -/
def safeBody (sel : Selector) (cause : SafeCause) : List Byte := (Content.safe sel cause).encode

/-- Queue the local STOP frame unless one is queued or waiting (R116). -/
def State.queueLocalStop (s : State) : State :=
  if s.tx.safe.frames.any (·.origin == .localStop) then s
  else s.enqueue (freshFrame .stop .localStop (some (safeBody .all .localStop)))

/-- The local stop input has been asserted (R116). -/
def State.localStopRequest (s : State) : State :=
  if s.stop.mode.onBus then (s.controlledStop .localStop none).queueLocalStop else s

/-- A frame of the SAFE queue is a STOP with this selector and cause, whoever offered it (R123). -/
def TxFrame.isStop (f : TxFrame) (sel : Selector) (cause : SafeCause) : Bool :=
  f.kind == .stop && f.body.bind parseSafe == some (.safe sel cause)

/-- Queue a STOP to a peer for the Proximity Watch (R123). -/
def State.queueWatchStop (s : State) (peer : Nat) (cause : SafeCause) : State :=
  if s.tx.safe.frames.any (·.isStop (.station peer) cause) then s
  else if s.hasRoom .safe then s.enqueue (freshFrame .stop .watch (some (safeBody (.station peer) cause)))
  else s.bump .safeDropped

end Sys2Proof.Machine
end

