-- ==== Sys2Proof/Machine/ClaimsEval.lean ====
section
/-! DEFINITION. The Claims Engine (chapter 2): the evaluation of each reservation frame as one change of the table, with
its pass, its report and its collision check, from a peer, at an own echo or from transmitted content; the restate
exchange; and the joining procedure's part in it (chapter 10). -/

namespace Sys2Proof.Machine

/-! ### One evaluation (R18, R29 to R31) -/

/-- The report to the Segment Executor (R29): the own SWEEP is HELD and was not, or has been entered anew. -/
def State.reportSweep (s : State) (before : Option Claim) (reentered : Bool) : State :=
  let wasHeld := match before with
    | some c => c.isHeld
    | none => false
  if s.isAxis && s.ownSweepHeld && (reentered || !wasHeld) then s.reportHeld else s

/-- The collision check against the pairs of before (R30, R31). -/
def State.checkCollision (s : State) (before : List (Bool × Nat × Bool)) : State :=
  match newConflict before s.ownConflicts with
  | some other => (s.bump .claimsCollision).controlledStop .collision (some other)
  | none => s

/-- Where the table differs from the one of `s₀`, confirmed marks apart: a promotion pass runs (R18, R28). -/
def State.passIfChanged (s₀ s : State) : State := if Table.sameClaims s₀.claims.table s.claims.table then s else s.runPass

/-- Where the table differs from the one of `s₀`, confirmed marks apart: CLAIMS CHANGE is set (R18). -/
def State.flagIfChanged (s₀ s : State) : State :=
  if Table.sameClaims s₀.claims.table s.claims.table then s else s.setFlag .claimsChange

/-- Close an evaluation that began at `s₀` and has brought the table to the one `s` holds: the pass, CLAIMS CHANGE, the report, what
the frame's echo means to the executor, the collision check (R18, R32). That a table is held against the one of before as a whole,
and that the check is made where a record alone has changed, is assumption log 21 (DEDUCED, unsafe). -/
def State.closeEvaluation (s₀ s : State) (reentered : Bool) (echoed : State → State) : State :=
  let s := s₀.flagIfChanged (s₀.passIfChanged s)
  let s := echoed (s.reportSweep s₀.ownSweep reentered)
  s.checkCollision s₀.ownConflicts

/-- The table has room for `added` claims after the claims `p` picks are removed (R20). -/
def Table.hasRoom (t : Table) (p : Claim → Bool) (added : Nat) : Bool := (Table.remove t p).length + added ≤ 128

/-- A frame for which the table has no room (R20, R40). -/
def State.tableFull (s : State) : State := (s.bump .tableFull).setView .blind

/-! ### The frames that change the table -/

/-- The owner's SWEEP. -/
def sweepOwned (n : Nat) (c : Claim) : Bool := c.owner == n && c.isSweep

/-- Any claim of the owner. -/
def ownedBy (n : Nat) (c : Claim) : Bool := c.owner == n

/-- CLAIM (R20, R21). -/
def State.evalClaim (s : State) (n : Nat) (depth vertical : Band) (precedence cue index : Nat) : State :=
  if Table.hasRoom s.claims.table (sweepOwned n) 1 then
    let t := Table.remove s.claims.table (sweepOwned n)
    let c : Claim := ⟨n, .sweep .waiting precedence cue index, depth, vertical, true⟩
    let t := if Table.eligible s.conflict t c then
        Table.remove (Table.enter t c.promoted) fun d => d.owner == n && !d.isSweep
      else Table.enter t c
    s.closeEvaluation (s.withTable t) (n == s.number) id
  else s.tableFull

/-- The three conditions of a TRIM (R22). -/
def trimApplies (c : Claim) (cue index : Nat) (vertical : Band) : Bool :=
  match c.form with
  | .sweep .held _ cue' index' => cue' == cue && index' == index && vertical.inside c.vertical
  | _ => false

/-- TRIM (R22). -/
def State.evalTrim (s : State) (n cue index : Nat) (vertical : Band) : State :=
  match Table.sweepOf s.claims.table n with
  | some c =>
    if trimApplies c cue index vertical then
      let t := Table.mapClaims s.claims.table fun d =>
        if sweepOwned n d then { d with vertical := vertical, confirmed := true } else d
      s.closeEvaluation (s.withTable t) false id
    else s.bump .trimRejected
  | none => s.bump .trimRejected

/-- RELEASE (R20, R23). -/
def State.evalRelease (s : State) (n : Nat) (depth vertical : Band) (echoed : State → State) : State :=
  if Table.hasRoom s.claims.table (ownedBy n) 1 then
    let t := Table.enter (Table.remove s.claims.table (ownedBy n)) ⟨n, .standing, depth, vertical, true⟩
    s.closeEvaluation (s.withTable t) false echoed
  else echoed s.tableFull

/-- WITHDRAW (R24). -/
def State.evalWithdraw (s : State) (n : Nat) (echoed : State → State) : State :=
  match Table.sweepOf s.claims.table n with
  | some _ => s.closeEvaluation (s.withTable (Table.remove s.claims.table (sweepOwned n))) false echoed
  | none => echoed s

/-- A listed claim as the table holds it (R25, R26). -/
def ClaimRecord.claim (r : ClaimRecord) (n : Nat) : Claim := ⟨n, r.form, r.depth, r.vertical, true⟩

/-- The claims of an ANNOUNCE or RESTATE replace the owner's (R20, R25); `s₀` is the state before its record was entered
(R18). -/
def State.evalListed (s₀ s : State) (n : Nat) (claims : List ClaimRecord) : State :=
  if Table.hasRoom s.claims.table (ownedBy n) claims.length then
    let t := claims.foldl (fun t r => Table.enter t (r.claim n)) (Table.remove s.claims.table (ownedBy n))
    s₀.closeEvaluation (s.withTable t) (n == s.number) id
  else s.tableFull

/-- An ANNOUNCE or RESTATE: the record, then the claims (R19, R46 to R49). From a DESK the claims are not entered, and
those it had are removed (R48); one that lists claims is refused ROLE. A record without a place counts DIRECTORY FULL and makes
the view BLIND, and nothing else of the frame is taken: a DESK's listed claims are then not refused ROLE (DESIGN CHOICE, safe:
assumption log 55). -/
def State.evalRecord (s : State) (n : Nat) (r : DirRecord) (claims : List ClaimRecord) (keepStatus : Bool) : State :=
  if s.canEnter n then
    let s₁ := s.enterRecord n r keepStatus
    match r.role with
    | .axis => s.evalListed s₁ n claims
    | .desk =>
      let s₂ := s.evalListed s₁ n []
      if claims.isEmpty then s₂ else s₂.refuse .role none
  else (s.bump .directoryFull).setView .blind

/-! ### The restate exchange (R33 to R35) and the own ANNOUNCE (R176) -/

/-- RESTATE REQUEST (R35); `own` for this station's echo. -/
def State.evalRequest (s : State) (own : Bool) : State :=
  let s := if own then s else s.removeUnsent .space (·.kind == .restateRequest)
  let s := if s.claims.view = .suspect then s.beginWindow else s
  s.offerRestate

/-- A RESTATE REQUEST from a station with no entry (R33): outside JOINING a suspicion event, which in SOUND queues no
request. -/
def State.unknownRequest (s : State) : State :=
  if s.stop.mode = .joining then s
  else
    match s.claims.view with
    | .sound => (s.bump .suspicion).setView .suspect
    | .suspect | .blind => s.suspicion

/-- A reservation frame from a station with no entry (R19, R33). -/
def State.unknownSource (s : State) : State :=
  let s := s.bump .unknownSource
  if s.stop.mode = .joining then s else s.suspicion

/-- The own ANNOUNCE at its echo or its loss (R50, R176). -/
def State.announced (s : State) (r : DirRecord) (claims : List ClaimRecord) : State :=
  let s := (s.evalRecord s.number r claims false).beginWindow
  let s := { s with stop := { s.stop with joinStage := .window } }
  s.startReporter.offerRestate

/-! ### The end of the restate window (R38, R177) -/

/-- The join ends with the first window after the ANNOUNCE (R177). -/
def State.endJoin (s : State) : State :=
  if s.stop.joinStage = .window then
    let s := { s with stop := { s.stop with joinStage := .joined } }
    if s.stop.mode = .joining then
      if s.isAxis && !s.plantReady then s.openEpisode .drive none else s.becomeActive
    else s
  else s

/-- The restate window runs out (R38). A view that becomes SOUND may let a GATED executor claim (R88). -/
def State.windowEnds (s : State) : State :=
  let s := { s with claims := { s.claims with windowSince := none } }.count .restateMissing
    (Table.unconfirmedOwners s.claims.table).length
  let s := if s.claims.view = .suspect ∧ ¬s.hasQueued .restateRequest then (s.setView .sound).tryClaim else s
  s.endJoin

end Sys2Proof.Machine
end

