-- ==== Sys2Proof/Machine/Watch.lean ====
section
/-! DEFINITION. The Proximity Watch (R121 to R123) and the handing on of a peer's report (R51). -/

namespace Sys2Proof.Machine

/-- The conditions of R121 on a report of a peer with this entry: the peer's height and this station's. -/
def State.watchHeights (s : State) (e : Entry) (r : StatusReport) : Option (Nat × Nat) :=
  match r.height, s.actualHeight with
  | some theirs, some ours =>
    if s.stop.mode.onBus && !s.areCompanions s.number e.number && e.present && e.record.depthBand.intersects s.ownDepth then
      some (theirs, ours)
    else none
  | _, _ => none

/-- The two loads meet in height (R12, R121). -/
def State.loadsMeet (s : State) (e : Entry) (theirs ours : Nat) : Bool :=
  (e.record.occupied theirs).intersects (s.ownOccupied ours)

/-- The peer's HELD claims cover its occupied band (R122). -/
def State.withinClaims (s : State) (n : Nat) (band : Band) : Bool :=
  match (claimsOf s.claims.table n).filter (·.isHeld) with
  | [] => false
  | [c] => band.inside c.vertical
  | c :: d :: _ => band.covered c.vertical d.vertical

/-- The report shows the load braked at rest (R122). -/
def StatusReport.atRest (r : StatusReport) : Bool := r.motion == .idle || r.motion == .paused

/-- Queue the watch's STOP unless the peer reports STOPPED (R123). -/
def State.watchStops (s : State) (e : Entry) (r : StatusReport) (cause : SafeCause) : State :=
  if r.mode = .stopped then s else s.queueWatchStop e.number cause

/-- The tests of R121 and R122 on a report, with the heights R121 found. Where both hold, the STOP with cause PROXIMITY is queued before
the one with cause BREACH (DESIGN CHOICE, unsafe: assumption log 57). -/
def State.watchTests (s : State) (e : Entry) (r : StatusReport) (theirs ours : Nat) : State :=
  let s := if s.loadsMeet e theirs ours then
      (s.controlledStop .proximity (some e.number)).watchStops e r .proximity
    else s
  if s.claims.view == .sound && r.atRest && !s.withinClaims e.number (e.record.occupied theirs) then
    (s.bump .breach).watchStops e r .breach
  else s

/-- The Proximity Watch of an AXIS on a report of an AXIS peer (R121). -/
def State.watchReport (s : State) (e : Entry) (r : StatusReport) : State :=
  match s.watchHeights e r with
  | some (theirs, ours) => s.watchTests e r theirs ours
  | none => s

/-- The gate of a GATED executor is evaluated at a report of its peer while the latch is clear (R87). -/
def State.gateReport (s : State) (n : Nat) : State :=
  match s.exe.segment with
  | some g =>
    if s.exe.motion == .gated && !s.exe.gateLatch && (g.gate.map (·.peer)) == some n then s.evaluateGate.tryClaim else s
  | none => s

/-- Hand a peer's report on (R51): the watch first, then the gate (assumption log 22). -/
def State.handOnReport (s : State) (n : Nat) (r : StatusReport) : State :=
  if s.isAxis && n != s.number then
    match s.entry n with
    | some e => ((if e.record.role = .axis then s.watchReport e r else s)).gateReport n
    | none => s
  else s

end Sys2Proof.Machine
end

