-- ==== Sys2Proof/Machine/CueFrames.lean ====
section
/-! DEFINITION. CUE frames at an AXIS station: the admission tests of R66 and the kind rules R68 to R79. -/

namespace Sys2Proof.Machine

/-- A CUE frame a kind rule ignores (R67). -/
def State.cueIgnored (s : State) : State := s.bump .cueIgnored

/-- Test 7 of R66. -/
def State.modeAdmits (s : State) : Kind → Bool
  | .load => (s.stop.mode == .active || s.stop.mode == .halted || s.stop.mode == .stopped) && s.stop.joinStage == .joined
  | .go => s.stop.mode == .active || s.stop.mode == .halted
  | .resume => s.stop.mode != .stopped
  | _ => true

/-- Tests 3 to 5 of R66 on a peer's frame; an echo is not tested (R140). -/
def State.sourceRefusal (s : State) (via : Arrival) (n rank limit : Nat) : Option RefusalCode :=
  match via with
  | .peer =>
    match s.entry n with
    | none => some .unknownSource
    | some e => if e.record.role = .axis then some .role else if limit < rank then some .authority else none
  | .echo _ | .lost _ => none

/-- The selector names a station by number. -/
def Selector.isStation : Selector → Bool
  | .station _ => true
  | .group _ | .span _ _ | .all => false

/-- The tests of R66 in order: not addressed, refused, or admitted. -/
def State.admitCue (s : State) (k : Kind) (via : Arrival) (n rank : Nat) (sel : Selector) (cue : Nat)
    (taken : State → State) : State :=
  if !s.selects sel || (k != .load && !s.holdsCue cue) then s
  else
    match s.sourceRefusal via n rank s.cfg.cueRankLimit with
    | some code => s.refuse code (some cue)
    | none =>
      if s.cue.parked != .notParked && !sel.isStation then s.refuse .parked (some cue)
      else if !s.modeAdmits k then s.refuse .notActive (some cue)
      else taken s

/-- The entries a LOAD makes (R60, R68, R69). -/
def State.loadedEntries (s : State) (cue specificity : Nat) (armed : Bool) (gs : List CarriedSegment) : List QueueEntry :=
  gs.map fun g => ⟨s.fitSegment cue g, specificity, armed, false, false, false⟩

/-- Put entries where cue N's first segment stands, and drop N's (R69). -/
def replaceCue (n : Nat) (new : List QueueEntry) : List QueueEntry → List QueueEntry
  | [] => []
  | e :: es => if e.ofCue n then new ++ es.filter (!·.ofCue n) else e :: replaceCue n new es

/-- LOAD (R68, R69). -/
def State.takeLoad (s : State) (sel : Selector) (cue : Nat) (gs : List CarriedSegment) : State :=
  match s.cue.queue.find? (·.ofCue cue) with
  | none =>
    if s.cue.queue.length + gs.length ≤ 4 then
      s.withQueue (s.cue.queue ++ s.loadedEntries cue sel.specificity false gs)
    else s.refuse .full (some cue)
  | some old =>
    if s.cueStarted cue then s.refuse .busy (some cue)
    else if sel.specificity < old.specificity then s.refuse .superseded (some cue)
    else if (s.cue.queue.filter (!·.ofCue cue)).length + gs.length ≤ 4 then
      s.withQueue (replaceCue cue (s.loadedEntries cue sel.specificity old.armed gs) s.cue.queue)
    else s.refuse .full (some cue)

/-- Arm every segment of a cue (R62, R70). -/
def State.armCue (s : State) (cue : Nat) : State :=
  let q := s.cue.queue.map fun e => if e.ofCue cue then { e with armed := true } else e
  if q = s.cue.queue then s else s.withQueue q

/-- GO (R70). -/
def State.takeGo (s : State) (cue : Nat) : State :=
  if s.headCue = some cue then
    if s.cueStarted cue then s.cueIgnored
    else if s.frozen then s.armCue cue
    else (s.armCue cue).startHead false
  else s.armCue cue

/-- The head cue is cancelling. -/
def State.headCancelling (s : State) : Bool :=
  match s.cue.queue with
  | e :: _ => e.cancelling
  | [] => false

/-- RESUME (R78, R79). -/
def State.takeResume (s : State) (cue : Nat) : State :=
  if s.stop.mode = .active ∧ s.frozen = true ∧ s.headCue = some cue ∧ s.headCancelling = false ∧ s.exe.motion = .idle then
    ((s.setFreeze .none).armCue cue).startHead true
  else s.cueIgnored

/-- CANCEL of a cue that is not started (R75). -/
def State.cancelUnstarted (s : State) (cue : Nat) : State :=
  let atHead := s.headCue == some cue
  let s := s.withQueue (s.cue.queue.filter (!·.ofCue cue))
  let s := (if atHead then s.setFreeze .none else s).parkEffect
  if atHead then s.startIfArmed else s

/-- Progress of the head segment. -/
def State.headMoved (s : State) : Bool :=
  match s.cue.queue with
  | e :: _ => e.moved
  | [] => false

/-- CANCEL of a started cue (R76): removed at once when the executor is IDLE, else the executor abandons the segment. -/
def State.cancelStarted (s : State) (cue : Nat) : State :=
  if s.exe.motion = .idle then s.cueLeaves cue s.headMoved
  else
    let s := s.withQueue (s.cue.queue.map fun e => if e.ofCue cue then { e with cancelling := true } else e)
    (s.mapCue fun c => { c with cancelMoved := s.headMoved }).executorStop

/-- CANCEL (R75, R76). -/
def State.takeCancel (s : State) (cue : Nat) : State :=
  if s.cue.queue.any (fun e => e.ofCue cue && e.cancelling) then s.cueIgnored
  else if s.cueStarted cue then s.cancelStarted cue
  else s.cancelUnstarted cue

end Sys2Proof.Machine
end

