-- ==== Sys2Proof/Machine/FrameDecoder.lean ====
section
/-! DEFINITION. The Frame Decoder (R137, R139 to R141, R150, R151): the steps an accepted frame goes through, and what each
kind of frame does, from a peer, as an own echo, and from transmitted content at a lost echo. -/

namespace Sys2Proof.Machine

/-! ### By class -/

/-- An own SAFE frame is taken when the mailbox submitted it; any peer's frame is taken (R108). -/
def Arrival.takesSafe : Arrival → Bool
  | .peer | .echo .mailbox | .lost .mailbox => true
  | .echo _ | .lost _ => false

/-- SAFE frames (R108). -/
def State.takeSafe (s : State) (k : Kind) (via : Arrival) (n rank : Nat) (sel : Selector) (cause : SafeCause) : State :=
  if s.isAxis && s.selects sel && via.takesSafe then
    match k with
    | .halt => s.takeHalt
    | .stop => s.controlledStop cause.stopCause (some n)
    | _ =>
      match s.sourceRefusal via n rank s.cfg.clearRankLimit with
      | some code => s.refuse code none
      | none => s.takeClear
  else s

/-- The suspicion event of a lost echo of a SPACE frame, after it has been applied (R32, R33). -/
def State.lostSuspicion (s : State) (via : Arrival) : State :=
  match via with
  | .lost _ => s.suspicion
  | .peer | .echo _ => s

/-- CLAIM, TRIM, RELEASE and WITHDRAW look their source up; an own frame is not looked up (R19, R140). -/
def State.withSource (s : State) (via : Arrival) (n : Nat) (cue : Option Nat) (taken : State → State) : State :=
  match via with
  | .peer =>
    match s.entry n with
    | none => s.unknownSource
    | some e => if e.record.role = .desk then s.refuse .role cue else taken s
  | .echo _ | .lost _ => (taken s).lostSuspicion via

/-- What the echo of an own RELEASE means to the executor: the joining procedure's means nothing to it. -/
def releaseEcho (via : Arrival) : State → State :=
  match via with
  | .echo .executor | .lost .executor => State.releaseEchoed
  | _ => id

/-- What the echo of an own WITHDRAW means to the executor. -/
def withdrawEcho (via : Arrival) : State → State :=
  match via with
  | .peer => id
  | .echo _ | .lost _ => State.withdrawEchoed

/-- An ANNOUNCE (R176, R178). -/
def State.takeAnnounce (s : State) (via : Arrival) (n : Nat) (r : DirRecord) (cs : List ClaimRecord) : State :=
  match via with
  | .peer => (s.evalRecord n r cs false).offerRestate
  | .echo _ | .lost _ => (s.announced r cs).lostSuspicion via

/-- A RESTATE REQUEST (R33, R35). -/
def State.takeRequest (s : State) (via : Arrival) (n : Nat) : State :=
  match via with
  | .peer => (if (s.entry n).isSome then s else s.unknownRequest).evalRequest false
  | .echo _ | .lost _ => (s.evalRequest true).lostSuspicion via

/-- A STATUS from a station with no entry (R52). -/
def State.unknownReport (s : State) : State := s.unknownSource

/-- A STATUS (R51, R52, R58). -/
def State.takeStatus (s : State) (via : Arrival) (n : Nat) (r : StatusReport) : State :=
  match via with
  | .peer => if (s.entry n).isSome then (s.enterStatus n r).handOnReport n r else s.unknownReport
  | .echo _ | .lost _ => s.enterStatus n r

/-- Hand a well-formed frame to the block that owns the state it concerns (R140, step 4). -/
def State.handOn (s : State) (k : Kind) (via : Arrival) (n rank : Nat) (c : Content) : State :=
  match k, c with
  | .halt, .safe sel cause | .stop, .safe sel cause | .clear, .safe sel cause => s.takeSafe k via n rank sel cause
  | .announce, .announce r cs => s.takeAnnounce via n r cs
  | .restateRequest, .empty => s.takeRequest via n
  | .restate, .announce r cs => (s.evalRecord n r cs true).lostSuspicion via
  | .claim, .claim depth vertical p cue index =>
    s.withSource via n (some cue) fun s => s.evalClaim n depth vertical p cue index
  | .trim, .trim cue index vertical => s.withSource via n (some cue) fun s => s.evalTrim n cue index vertical
  | .release, .release depth vertical =>
    s.withSource via n none fun s => s.evalRelease n depth vertical (releaseEcho via)
  | .withdraw, .empty => s.withSource via n none fun s => s.evalWithdraw n (withdrawEcho via)
  | .status, .status r => s.takeStatus via n r
  | .load, .load sel cue gs =>
    if s.isAxis then s.admitCue .load via n rank sel cue fun s => s.takeLoad sel cue gs else s
  | .go, .cue sel cue => if s.isAxis then s.admitCue .go via n rank sel cue fun s => s.takeGo cue else s
  | .resume, .cue sel cue => if s.isAxis then s.admitCue .resume via n rank sel cue fun s => s.takeResume cue else s
  | .cancel, .cue sel cue => if s.isAxis then s.admitCue .cancel via n rank sel cue fun s => s.takeCancel cue else s
  | _, _ => s

/-! ### The steps of R140 -/

/-- A malformed frame (R139). -/
def State.malformed (s : State) (k : Kind) (body : List Byte) : State :=
  (s.bump .malformed).refuse .misfiled (carriedCue k body)

/-- Steps 3 and 4 of R140. -/
def State.checkAndHandOn (s : State) (k : Kind) (via : Arrival) (n rank : Nat) (body : List Byte) : State :=
  match parseBody k n body with
  | some c => s.handOn k via n rank c
  | none => s.malformed k body

/-- The frame awaiting this echo: the state is ECHO WAIT and the kind is the expected one (R150). -/
def State.expectedEcho (s : State) (k : Kind) : Option (FrameClass × TxFrame) :=
  match s.tx.state with
  | .echoWait c => if s.tx.expected = some k then (s.inFlight c).map fun f => (c, f) else none
  | _ => none

/-- Step 2 of R140: an own frame is the expected echo, taken with the content the station sent, or a duplicate event
(R150). -/
def State.ownFrame (s : State) (k : Kind) (rank : Nat) : State :=
  match s.expectedEcho k with
  | some (c, f) =>
    ((s.leaveFlight c).checkAndHandOn k (.echo f.origin) s.number rank (f.body.getD [])).reportIfDue
  | none => s.duplicateEvent

/-- The accepted frame at the head of the decoder's inbox is taken when it is this one. -/
def State.takenFromInbox (s : State) (f : AcceptedFrame) : State :=
  match s.dec.inbox with
  | some g :: rest => if g = f then { s with dec := { s.dec with inbox := rest } } else s
  | none :: _ | [] => s

/-- A misfiled frame is the next the decoder takes (R140). -/
def State.misfiledNext (s : State) : Bool := s.dec.inbox.head? == some none

/-- A misfiled frame is discarded: refused from JOINING onward, off the bus without a record (R137, R140). -/
def State.misfiled (s : State) : State := if s.stop.mode.onBus then s.refuse .misfiled none else s

/-- Discard the misfiled frames at the head of these accepted frames, and leave the rest in the inbox. -/
def State.discardFrom (s : State) : List (Option AcceptedFrame) → State
  | none :: rest => s.misfiled.discardFrom rest
  | some f :: rest => { s with dec := { s.dec with inbox := some f :: rest } }
  | [] => { s with dec := { s.dec with inbox := [] } }

/-- The misfiled frames at the head of the decoder's inbox are discarded, before any frame accepted after them is taken (R140). -/
def State.discardMisfiled (s : State) : State := s.discardFrom s.dec.inbox

/-- An accepted frame (R140). -/
def State.takeFrame (s : State) (k : Kind) (source : BitVec 7) (rank : BitVec 2) (body : List Byte) : State :=
  let s := s.discardMisfiled.takenFromInbox ⟨k, source, rank, body⟩
  if s.stop.mode.onBus then
    if stationInRange source.toNat then
      if source.toNat = s.number then s.ownFrame k rank.toNat
      else s.checkAndHandOn k .peer source.toNat rank.toNat body
    else s.refuse .misfiled none
  else s

/-- A frame enters the inbox behind those accepted before it. -/
def State.queueAccepted (s : State) (f : Option AcceptedFrame) : State :=
  { s with dec := { s.dec with inbox := s.dec.inbox ++ [f] } }

/-- A frame the merger accepted enters the inbox, unless the mode discards it (R140); a misfiled one with none ahead of it is taken at
once (R137; assumption log 4). -/
def State.acceptFrame (s : State) (h : Header) (body : List Byte) : State :=
  if s.stop.mode.onBus then
    match h.filed with
    | some k => s.queueAccepted (some ⟨k, h.source, h.rank, body⟩)
    | none => (s.queueAccepted none).discardMisfiled
  else s

/-! ### Lost echoes (R151) -/

/-- The echo is declared lost (R151). -/
def State.loseEcho (s : State) (c : FrameClass) : State :=
  let s₁ := s.bump .echoLost
  match s₁.inFlight c with
  | some f =>
    ((s₁.leaveFlight c).checkAndHandOn f.kind (.lost f.origin) s.number s.ownRankSent (f.body.getD [])).reportIfDue
  | none => s₁.leaveFlight c

end Sys2Proof.Machine
end

