-- ==== Sys2Proof/Machine/Wire.lean ====
section
/-! DEFINITION. The frame on the wire (R136): header check, body CRC, stuffing, and the bits a sender sends. A bit is
`true` when recessive (level 1). -/

namespace Sys2Proof.Machine

/-- The low `w` bits of a number, most significant first. -/
def bitsOf : (w n : Nat) → List Bool
  | 0, _ => []
  | w + 1, n => n.testBit w :: bitsOf w n

/-- The number some bits spell, most significant first. -/
def natOfBits (bits : List Bool) : Nat := bits.foldl (fun n b => 2 * n + b.toNat) 0

/-- The bits of bytes, each most significant bit first. -/
def bitsOfBytes (bytes : List Byte) : List Bool := bytes.flatMap fun b => bitsOf 8 b.toNat

/-- The columns of the 22 bits of access field and header: the eight-bit values with exactly three bits set, ascending,
from the first bit sent (R136). -/
def headerColumns : List Nat :=
  [7, 11, 13, 14, 19, 21, 22, 25, 26, 28, 35, 37, 38, 41, 42, 44, 49, 50, 52, 56, 67, 69]

/-- The columns of all 30 bits: those 22, and for the header check, sent most significant bit first, the powers of two
(R136). -/
def allColumns : List Nat := headerColumns ++ [128, 64, 32, 16, 8, 4, 2, 1]

/-- The exclusive-or of the columns of the bits that are 1. -/
def xorColumns : List Nat → List Bool → Nat
  | c :: cs, b :: bs => (if b then c else 0) ^^^ xorColumns cs bs
  | _, _ => 0

/-- One bit of the body CRC, polynomial x^16 + x^15 + x^2 + 1, most significant bit first (R136). -/
def crcBit (crc : BitVec 16) (b : Bool) : BitVec 16 :=
  let shifted := crc <<< 1
  if (crc.msb != b) then shifted ^^^ 0x8005 else shifted

/-- The body CRC: from all ones, over the body, without reflection or final inversion (R136). -/
def bodyCrc (body : List Byte) : BitVec 16 := (bitsOfBytes body).foldl crcBit 0xFFFF

/-- Insert a bit of the opposite level after every six equal bits; `last` and `run` describe the run so far, an inserted
bit being the first of the run that follows it (R136). -/
def stuff (last : Bool) (run : Nat) : List Bool → List Bool
  | [] => []
  | b :: bs =>
    let run := if b = last then run + 1 else 1
    if run = 6 then b :: (!b) :: stuff (!b) 1 bs else b :: stuff b run bs

/-- Lead of 16 bits alternating from 1, and the start mark 1101 (R136). -/
def leadBits : List Bool :=
  [true, false, true, false, true, false, true, false, true, false, true, false, true, false, true, false,
    true, true, false, true]

/-- The trail mark 11111110 (R136). -/
def trailMark : List Bool := [true, true, true, true, true, true, true, false]

/-- Access field and header without the check: class 2, source 7, kind 4, rank 2, body length 7 (R136). -/
def headerBits (cls source kind rank len : Nat) : List Bool :=
  bitsOf 2 cls ++ bitsOf 7 source ++ bitsOf 4 kind ++ bitsOf 2 rank ++ bitsOf 7 len

/-- The bits of a frame in the order they are sent (R136). -/
def frameBits (cls source kind rank : Nat) (body : List Byte) : List Bool :=
  let head := headerBits cls source kind rank body.length
  let inner := head ++ bitsOf 8 (xorColumns headerColumns head) ++ bitsOfBytes body ++ bitsOf 16 (bodyCrc body).toNat
  leadBits ++ stuff (!head.headD true) 0 inner ++ trailMark

/-- The bits of the frame the station is sending, source and rank filled in by the Transmitter (R137). -/
def State.wireBits (s : State) : List Bool :=
  match s.inFlightFrame with
  | some f => frameBits f.kind.cls.code s.number f.kind.code s.ownRankSent (f.body.getD [])
  | none => []

end Sys2Proof.Machine
end

