-- ==== Sys2Proof/Machine/Receiver.lean ====
section
/-! DEFINITION. What a lane receiver makes of the bits of one reception (R155 to R158), as a function of the bits it took
from the first dominant level on. Where the bits end before the reception has, the lane shows no more dominant level. -/

namespace Sys2Proof.Machine

/-- The kinds a reception records, its copy if it has one, and whether the receiver is in IDLE or in TRAIL after it. -/
structure Reception where
  kinds : List LaneKind
  copy : Option Copy
  inTrail : Bool
deriving DecidableEq, Repr

/-! ### Lead (R155) -/

/-- The pattern that ends a lead: 10101010 and the start mark 1101. -/
def leadPattern : List Bool := [true, false, true, false, true, false, true, false, true, true, false, true]

/-- The number of places at which two lists differ. -/
def differences : List Bool → List Bool → Nat
  | a :: as, b :: bs => (if a = b then 0 else 1) + differences as bs
  | _, _ => 0

/-- The match of the last twelve bits: none, or whether it has a lead flaw (R155). -/
def leadMatch (lenient : Bool) (window : List Bool) : Option Bool :=
  if window.length = 12 ∧ window.drop 8 = leadPattern.drop 8 then
    match differences (window.take 8) (leadPattern.take 8) with
    | 0 => some false
    | 1 => if lenient then some true else none
    | _ => none
  else none

/-- How the search for the start mark ends: found with or without a flaw, given up at 24 bits, or out of bits. -/
inductive LeadScan where
  | found (flaw : Bool) (rest : List Bool)
  | lost
  | ranOut
deriving DecidableEq, Repr

/-- Take bits in LEAD: `window` holds the last twelve at most, `taken` counts them (R155). -/
def scanLead (lenient : Bool) (window : List Bool) (taken : Nat) : List Bool → LeadScan
  | [] => .ranOut
  | b :: bs =>
    let window := (window ++ [b]).drop (window.length + 1 - 12)
    match leadMatch lenient window with
    | some flaw => .found flaw bs
    | none => if taken + 1 = 24 then .lost else scanLead lenient window (taken + 1) bs

/-! ### Destuffing (R156) -/

/-- How taking bits ends: with the bits and the run as it stands, at a stuffing fault of a level, or out of bits. -/
inductive Taking where
  | bits (got : List Bool) (last : Bool) (run : Nat) (rest : List Bool)
  | stuffing (level : Bool) (rest : List Bool)
  | ranOut
deriving DecidableEq, Repr

/-- Take `need` bits, removing stuffed ones; `got` holds the bits taken, latest first (R156). -/
def destuff (need : Nat) (last : Bool) (run : Nat) (got : List Bool) : List Bool → Taking
  | [] => if need = 0 then .bits got.reverse last run [] else .ranOut
  | b :: bs =>
    if need = 0 then .bits got.reverse last run (b :: bs)
    else if run = 6 then if b = last then .stuffing b bs else destuff need b 1 got bs
    else destuff (need - 1) b (if b = last then run + 1 else 1) (b :: got) bs

/-- Remove the stuffed bit after a run of six that ends the stuffed part (R156). -/
def destuffEnd (last : Bool) (run : Nat) (rest : List Bool) : Taking :=
  if run = 6 then
    match rest with
    | b :: bs => if b = last then .stuffing b bs else .bits [] b 1 bs
    | [] => if last then .stuffing true [] else .bits [] true 1 []
  else .bits [] last run rest

/-! ### Header (R156) -/

/-- Invert the bit at a place. -/
def flipAt : Nat → List Bool → List Bool
  | 0, b :: bs => (!b) :: bs
  | n + 1, b :: bs => b :: flipAt n bs
  | _, [] => []

/-- The verdict on the 30 bits: the bits as corrected and whether one was, or HEADER BAD (R156). -/
def judgeHeader (bits : List Bool) : Option (List Bool × Bool) :=
  let syndrome := xorColumns allColumns bits
  if syndrome = 0 then some (bits, false)
  else
    match allColumns.findIdx? (· == syndrome) with
    | some i => some (flipAt i bits, true)
    | none => none

/-- The fields of the corrected header and its body length (R156). -/
def headerFields (bits : List Bool) : Header × Nat :=
  (⟨BitVec.ofNat 2 (natOfBits (bits.take 2)), BitVec.ofNat 7 (natOfBits ((bits.drop 2).take 7)),
    BitVec.ofNat 4 (natOfBits ((bits.drop 9).take 4)), BitVec.ofNat 2 (natOfBits ((bits.drop 13).take 2))⟩,
    natOfBits ((bits.drop 15).take 7))

/-! ### Body and trail (R157) -/

/-- After HEADER BAD: the first run of seven recessive bits followed by a dominant bit is the trail mark (R156). A longer run before the
dominant bit is one too (DESIGN CHOICE, unsafe: assumption log 69). -/
def findTrail (run : Nat) : List Bool → Bool
  | [] => false
  | b :: bs => if b then findTrail (run + 1) bs else if 7 ≤ run then true else findTrail 0 bs

/-- A bad copy after HEADER BAD (R156, R157); the trail mark found lets the receiver return to IDLE. The run of seven recessive
bits starts afresh at the end of the header: the seven of a stuffing fault do not count (DESIGN CHOICE, unsafe: assumption log
51). -/
def badHeader (kinds : List LaneKind) (rest : List Bool) : Reception :=
  let found := findTrail 0 rest
  ⟨kinds ++ [.headerBad], some ⟨none, [], found, true⟩, !found⟩

/-- A copy that ends without reaching the frame's end. -/
def cutCopy (kinds : List LaneKind) (h : Option Header) : Reception := ⟨kinds, some ⟨h, [], false, true⟩, true⟩

/-- The bytes of bits. -/
def bytesOfBits : (count : Nat) → List Bool → List Byte
  | 0, _ => []
  | n + 1, bits => BitVec.ofNat 8 (natOfBits (bits.take 8)) :: bytesOfBits n (bits.drop 8)

/-- The eight bits after the CRC, the lane reading recessive where they have not come. -/
def trailBits (rest : List Bool) : List Bool := (rest ++ List.replicate 8 true).take 8

/-- BODY BAD where the CRC taken after `len` body bytes is not the one computed over them (R157). -/
def crcKinds (len : Nat) (got : List Bool) : List LaneKind :=
  if natOfBits (got.drop (8 * len)) = (bodyCrc (bytesOfBits len got)).toNat then [] else [.bodyBad]

/-- The judgement of body, CRC and trail (R157). -/
def judgeBody (kinds : List LaneKind) (h : Header) (len : Nat) (got rest : List Bool) : Reception :=
  let crcBad := crcKinds len got
  let trailRight := trailBits rest == trailMark
  ⟨kinds ++ crcBad ++ (if trailRight then [] else [.noTrail]),
    some ⟨some h, bytesOfBits len got, true, !(crcBad.isEmpty && trailRight)⟩, !trailRight⟩

/-- A stuffing fault in BODY: BODY BAD for dominant bits, SHORT for recessive ones (R157). One after a wrong CRC leaves BODY BAD
recorded once (DESIGN CHOICE, unsafe: assumption log 70). -/
def bodyFault (kinds : List LaneKind) (h : Header) (level : Bool) : Reception :=
  let kind : LaneKind := if level then .short else .bodyBad
  cutCopy (if kinds.contains kind then kinds else kinds ++ [kind]) (some h)

/-- After the CRC: a fault at the stuffed bit that may follow it, BABBLE within the eight bits of the trail, or the trail. The CRC
is judged in each case, since it has been taken (R156, R157). -/
def receiveTrail (babble : Bool) (kinds : List LaneKind) (h : Header) (len : Nat) (got : List Bool) (last : Bool) (run : Nat)
    (rest : List Bool) : Reception :=
  let judged := kinds ++ crcKinds len got
  match destuffEnd last run rest with
  | .stuffing level _ => if babble && rest.isEmpty then cutCopy judged (some h) else bodyFault judged h level
  | .bits _ _ _ left => if babble && left.length < 8 then cutCopy judged (some h) else judgeBody kinds h len got left
  | .ranOut => cutCopy judged (some h)

/-- BODY and TRAIL; `babble` says that BABBLE cut the reception, so that missing bits record nothing (R154, R157). -/
def receiveBody (babble : Bool) (kinds : List LaneKind) (h : Header) (len : Nat) (last : Bool) (run : Nat)
    (rest : List Bool) : Reception :=
  match destuff (8 * len + 16) last run [] rest with
  | .stuffing level _ => bodyFault kinds h level
  | .ranOut => cutCopy (if babble then kinds else kinds ++ [.short]) (some h)
  | .bits got last run rest => receiveTrail babble kinds h len got last run rest

/-- HEADER, BODY and TRAIL (R156, R157). A lane that becomes idle before 30 bits are taken makes the copy HEADER BAD without a header
(DESIGN CHOICE, unsafe: assumption log 64); a corrected header with a body length above 96 records HEADER FIXED beside HEADER BAD
(DESIGN CHOICE, unsafe: assumption log 65). -/
def receiveHeader (babble : Bool) (kinds : List LaneKind) (rest : List Bool) : Reception :=
  match destuff 30 (!rest.headD true) 0 [] rest with
  | .stuffing _ rest => badHeader kinds rest
  | .ranOut => if babble then cutCopy kinds none else badHeader kinds []
  | .bits got last run rest =>
    match judgeHeader got with
    | none => badHeader kinds rest
    | some (bits, fixed) =>
      let (h, len) := headerFields bits
      let kinds := if fixed then kinds ++ [.headerFixed] else kinds
      if 96 < len then badHeader kinds rest else receiveBody babble kinds h len last run rest

/-- One reception (R155 to R158). -/
def receive (lenient babble : Bool) (bits : List Bool) : Reception :=
  match scanLead lenient [] 0 bits with
  | .found flaw rest => receiveHeader babble (if flaw then [.leadFlaw] else []) rest
  | .lost => ⟨[.leadLost], none, true⟩
  | .ranOut => if babble then cutCopy [] none else ⟨[.leadLost], none, false⟩

/-- The copy is clean: it reaches the frame's end and no kind makes it bad (R158). -/
def Copy.clean (c : Copy) : Bool := c.reachesEnd && !c.bad

/-- The bits of a frame as a receiver takes them: the lead's first bit is recessive and is not seen (R155). -/
def bitsTaken (sent : List Bool) : List Bool := sent.drop 1

end Sys2Proof.Machine
end

