-- ==== Sys2Proof/Machine/Merger.lean ====
section
/-! DEFINITION. The Frame Merger (R160 to R168): attempts, the decision, the tail, lane health, and what a lane receiver
reports to it. -/

namespace Sys2Proof.Machine

/-! ### Attempts -/

def Attempt.part (a : Attempt) : Lane → LanePart
  | .a => a.partA
  | .b => a.partB

def Attempt.setPart (a : Attempt) (l : Lane) (p : LanePart) : Attempt :=
  match l with
  | .a => { a with partA := p }
  | .b => { a with partB := p }

def Attempt.fixedDeciding (a : Attempt) : Lane → Bool
  | .a => a.decidingA
  | .b => a.decidingB

def Merger.nextPart (m : Merger) : Lane → LanePart
  | .a => m.nextA
  | .b => m.nextB

def Merger.setNext (m : Merger) (l : Lane) (p : LanePart) : Merger :=
  match l with
  | .a => { m with nextA := p }
  | .b => { m with nextB := p }

def otherLane : Lane → Lane
  | .a => .b
  | .b => .a

/-- Change the merger. -/
def State.mapMerger (s : State) (g : Merger → Merger) : State := { s with merger := g s.merger }

/-- A lane that is not OFF (R153, R160). -/
def State.laneOn (s : State) (l : Lane) : Bool := (s.lane l).health != .off

/-- The lane decides in an attempt that opens now: its health is GOOD, or no enabled lane's is (R160). -/
def State.decidesAtOpening (s : State) (l : Lane) : Bool :=
  let good (m : Lane) : Bool := (s.lane m).health == .good
  if good .a || good .b then good l else s.laneOn l

/-- An attempt with these parts, its deciding lanes fixed now (R160). -/
def State.newAttempt (s : State) (partA partB : LanePart) : Attempt where
  decidingA := s.decidesAtOpening .a
  decidingB := s.decidesAtOpening .b
  partA := partA
  partB := partB
  firstCopy := if partA.copy.isSome then some .a else if partB.copy.isSome then some .b else none
  windowSince := none

/-- The lane decides in the attempt: fixed at the opening, and not while its babble mark is set (R154, R160). -/
def State.decides (s : State) (a : Attempt) (l : Lane) : Bool := a.fixedDeciding l && !(s.lane l).babble

/-- A reception in progress. -/
def LanePart.inProgress (p : LanePart) : Bool := p.lead && !p.ended

/-- The part's copy is clean (R158). -/
def LanePart.cleanCopy (p : LanePart) : Bool :=
  match p.copy with
  | some c => c.clean
  | none => false

/-- The window opens when a deciding lane's copy has reached the frame's end (R161). For a copy that reached it while it was held for
the next attempt, the 4 µs begin when that attempt opens (DESIGN CHOICE, unsafe: assumption log 53). -/
def State.openWindow (s : State) (a : Attempt) : Attempt :=
  let reached (l : Lane) : Bool :=
    s.decides a l && match (a.part l).copy with
      | some c => c.reachesEnd
      | none => false
  if a.windowSince.isNone && (reached .a || reached .b) then { a with windowSince := some s.now } else a

/-- The attempt is ready to be decided before the window runs out (R161). With no window open it waits for every lane whose lead was
established in it, one that is not deciding too (DESIGN CHOICE, unsafe: assumption log 63). -/
def State.readyToDecide (s : State) (a : Attempt) : Bool :=
  match a.windowSince with
  | some _ => [Lane.a, .b].all fun l => !s.decides a l || (a.part l).ended
  | none => [Lane.a, .b].all fun l => !(a.part l).inProgress

/-! ### Outcomes (R162) -/

/-- What a decision does: the copy accepted, the lanes MISSING is recorded on, and whether it is a DISAGREE. -/
structure Decision where
  accepted : Option Copy
  missing : List Lane
  disagree : Bool
deriving DecidableEq, Repr

/-- Two copies are identical (R158). -/
def Copy.same (c d : Copy) : Bool := c.header == d.header && c.body == d.body

/-- MISSING is recorded on an absent lane, but not on one whose copy OVERRUN dropped (R162, R163). -/
def LanePart.missingOn (p : LanePart) (l : Lane) : List Lane := if p.copy.isNone && !p.overrun then [l] else []

/-- The outcome with two deciding lanes (R162). -/
def decideTwo (p q : LanePart) : Decision :=
  match p.copy, q.copy with
  | some c, some d =>
    if c.clean && d.clean then if c.same d then ⟨some c, [], false⟩ else ⟨none, [], true⟩
    else if c.clean then ⟨some c, [], false⟩
    else if d.clean then ⟨some d, [], false⟩
    else ⟨none, [], false⟩
  | some c, none => ⟨if c.clean then some c else none, q.missingOn .b, false⟩
  | none, some d => ⟨if d.clean then some d else none, p.missingOn .a, false⟩
  | none, none => ⟨none, [], false⟩

/-- The outcome with one deciding lane (R162). -/
def decideOne (p : LanePart) : Decision :=
  match p.copy with
  | some c => ⟨if c.clean then some c else none, [], false⟩
  | none => ⟨none, [], false⟩

/-- The outcome, from the deciding lanes alone; with none left by BABBLE the attempt is discarded. -/
def State.outcome (s : State) (a : Attempt) : Decision :=
  match s.decides a .a, s.decides a .b with
  | true, true => decideTwo a.partA a.partB
  | true, false => decideOne a.partA
  | false, true => decideOne a.partB
  | false, false => ⟨none, [], false⟩

/-- The header of a lane's copy. -/
def Attempt.headerOn (a : Attempt) (l : Lane) : Option Header := (a.part l).copy.bind (·.header)

/-- The source of the first readable header among the copies (R164). -/
def Attempt.firstSource (a : Attempt) : Option Nat :=
  let first := a.firstCopy.getD .a
  match a.headerOn first with
  | some h => some h.source.toNat
  | none => (a.headerOn (otherLane first)).map (·.source.toNat)

/-- The sync snapshot of a MISSING or DISAGREE event (R164). -/
def Attempt.snapshot (a : Attempt) (e : SyncEvent) : SyncSnapshot :=
  ⟨e, a.partA.lead, a.partB.lead, a.partA.cleanCopy, a.partB.cleanCopy, a.firstSource⟩

/-- The event a decision leaves in the snapshot. -/
def Decision.event (d : Decision) : Option SyncEvent :=
  if d.disagree then some .disagree
  else match d.missing with
    | .a :: _ => some .missingOnA
    | .b :: _ => some .missingOnB
    | [] => none

/-- A discard is reported to the Claims Engine: no deciding copy has a readable header, or one shows SPACE (R165). -/
def State.suspicious (s : State) (a : Attempt) : Bool :=
  let headers := [Lane.a, .b].filterMap fun l => if s.decides a l then a.headerOn l else none
  s.stop.mode.onBus && (headers.isEmpty || headers.any fun h => FrameClass.ofCode h.cls == .space)

/-! ### Lane health (R166, R167) -/

/-- Change a lane's health with its runs; the change sets LANE ERROR (R166, R167). -/
def State.setHealth (s : State) (l : Lane) (h : Health) : State :=
  (s.setLane l { s.lane l with health := h, badRun := 0, cleanRun := 0 }).setFlag .laneError

/-- The bad run of a GOOD lane at the close of an attempt (R166). -/
def State.closeGood (s : State) (l : Lane) (clean otherClean : Bool) : State :=
  let r := s.lane l
  if clean then s.setLane l { r with badRun := 0 }
  else if otherClean then
    if 8 ≤ r.badRun + 1 then s.setHealth l .degraded else s.setLane l { r with badRun := r.badRun + 1 }
  else s

/-- The clean run of a DEGRADED lane at the close of an attempt (R167). -/
def State.closeDegraded (s : State) (l : Lane) (p : LanePart) (accepted : Option Copy) : State :=
  let r := s.lane l
  match accepted with
  | none => s
  | some c =>
    if p.cleanCopy && p.copy.any (·.same c) then
      if 16 ≤ r.cleanRun + 1 then s.setHealth l .good else s.setLane l { r with cleanRun := r.cleanRun + 1 }
    else s.setLane l { r with cleanRun := 0 }

/-- A lane at the close of an attempt; the copy of a partner that is OFF does not count (R166). -/
def State.closeLane (s : State) (a : Attempt) (accepted : Option Copy) (l : Lane) : State :=
  match (s.lane l).health with
  | .good => s.closeGood l (a.part l).cleanCopy ((a.part (otherLane l)).cleanCopy && s.laneOn (otherLane l))
  | .degraded => s.closeDegraded l (a.part l) accepted
  | .off => s

/-- The attempt closes (R166, R167). -/
def State.closeAttempt (s : State) (a : Attempt) (accepted : Option Copy) : State :=
  (s.closeLane a accepted .a).closeLane a accepted .b

/-- The tail closes, if there is one (R161). -/
def State.closeTail (s : State) : State :=
  match s.merger.tail with
  | some t => (s.mapMerger fun m => { m with tail := none }).closeAttempt t.attempt t.accepted
  | none => s

/-! ### The decision (R161, R162) -/

/-- Some lane that does not decide is still receiving in the attempt. -/
def State.hasLateLane (s : State) (a : Attempt) : Bool :=
  [Lane.a, .b].any fun l => !s.decides a l && (a.part l).inProgress

/-- After the decision: a tail while a non-deciding lane is still receiving and its 4 µs last, else the attempt closes (R161). Where an older
tail is still open, that one closes at once, before its own 4 µs (DESIGN CHOICE, unsafe: assumption log 68). -/
def State.endDecided (s : State) (a : Attempt) (accepted : Option Copy) : State :=
  match a.windowSince with
  | some since =>
    if s.hasLateLane a && s.now < since + skewWindowUs then
      s.closeTail.mapMerger fun m => { m with tail := some ⟨a, accepted, since⟩ }
    else s.closeAttempt a accepted
  | none => s.closeAttempt a accepted

/-- A decision as it is recorded: an OFF lane keeps its error record as it stood, so no MISSING is recorded on it (R153). -/
def State.recorded (s : State) (d : Decision) : Decision := { d with missing := d.missing.filter s.laneOn }

/-- Record what a decision records, and count it (R162, R164). -/
def State.recordDecision (s : State) (a : Attempt) (d : Decision) : State :=
  let s := d.missing.foldl (fun s l => s.recordKind l .missing) s
  let s := match d.event with
    | some e => s.mapMerger fun m => { m with snapshot := some (a.snapshot e) }
    | none => s
  let s := if d.disagree then s.bump .disagree else s
  if d.accepted.isSome then s.bump .accepted else s.bump .discarded

/-- Decide the collecting attempt (R162): record, close or enter the tail, and hand the frame or the suspicion on. -/
def State.decideAttempt (s : State) (a : Attempt) : State :=
  let d := s.outcome a
  let s' := (s.mapMerger fun m => { m with collecting := none }).recordDecision a (s.recorded d)
  let s' := s'.endDecided a d.accepted
  match d.accepted with
  | some c =>
    match c.header with
    | some h => s'.acceptFrame h c.body
    | none => s'
  | none => if s.suspicious a then s'.suspicion else s'

/-- The receptions that belong to the next attempt open it (R160, R163), also where the lane has since been marked for BABBLE or
turned OFF: the lead was established before (DESIGN CHOICE, unsafe: assumption log 52). -/
def State.openNext (s : State) : State :=
  if s.merger.collecting.isNone && (s.merger.nextA.lead || s.merger.nextB.lead) then
    s.mapMerger fun m =>
      { m with collecting := some (s.newAttempt m.nextA m.nextB), nextA := LanePart.empty, nextB := LanePart.empty }
  else s

/-- Open the window or decide, as the collecting attempt stands. -/
def State.advanceAttempt (s : State) : State :=
  match s.merger.collecting with
  | some a =>
    let a := s.openWindow a
    if s.readyToDecide a then s.decideAttempt a else s.mapMerger fun m => { m with collecting := some a }
  | none => s

/-- After any change: decide, open the next attempt, and decide that one if it is complete already. -/
def State.settleMerger (s : State) : State := s.advanceAttempt.openNext.advanceAttempt.openNext

/-! ### Reports of the lane receivers (R158, R160, R163) -/

/-- A part in which a lead has been established. -/
def LanePart.led (p : LanePart) : LanePart := { p with lead := true }

/-- A new lead on a lane that has a reception in the collecting attempt: a held copy is dropped as OVERRUN, and the new
reception belongs to the next attempt (R163). A copy of the next attempt that is held there goes the same way. -/
def State.leadAgain (s : State) (a : Attempt) (l : Lane) : State :=
  let p := a.part l
  let n := s.merger.nextPart l
  let s := if p.copy.isSome then
      (s.mapMerger fun m => { m with collecting := some (a.setPart l { p with copy := none, overrun := true }) }).recordKind l
        .overrun
    else if n.copy.isSome then s.recordKind l .overrun
    else s
  s.mapMerger fun m => m.setNext l LanePart.empty.led

/-- A lead has been established on a lane (R160, R163). -/
def State.mergerLead (s : State) (l : Lane) : State :=
  match s.merger.collecting with
  | none =>
    s.mapMerger fun m => { m with collecting := some ((s.newAttempt LanePart.empty LanePart.empty).setPart l LanePart.empty.led) }
  | some a =>
    if (a.part l).lead then s.leadAgain a l
    else s.mapMerger fun m => { m with collecting := some (a.setPart l (a.part l).led) }

/-- A part whose reception has ended, with its copy if it has one. -/
def LanePart.close (p : LanePart) (c : Option Copy) : LanePart := { p with ended := true, copy := c }

/-- The end of a reception in the collecting attempt. -/
def Attempt.ends (a : Attempt) (l : Lane) (c : Option Copy) : Attempt :=
  { a.setPart l ((a.part l).close c) with
    firstCopy := if a.firstCopy.isNone && c.isSome then some l else a.firstCopy }

/-- The end of a reception in the tail: the tail closes with the last of them (R161). -/
def State.tailEnds (s : State) (t : Tail) (l : Lane) (c : Option Copy) : State :=
  let a := t.attempt.setPart l ((t.attempt.part l).close c)
  let s' := s.mapMerger fun m => { m with tail := some { t with attempt := a } }
  if s.hasLateLane a then s' else s'.closeTail

/-- A reception has ended (R158, R161): it belongs to the next attempt, the collecting one or the tail; one of an attempt
that has closed is dropped. -/
def State.mergerEnd (s : State) (l : Lane) (c : Option Copy) : State :=
  if (s.merger.nextPart l).inProgress then
    (s.mapMerger fun m => m.setNext l ((m.nextPart l).close c)).settleMerger
  else
    match s.merger.collecting, s.merger.tail with
    | some a, tail =>
      if (a.part l).inProgress then (s.mapMerger fun m => { m with collecting := some (a.ends l c) }).settleMerger
      else
        match tail with
        | some t => if (t.attempt.part l).inProgress then s.tailEnds t l c else s
        | none => s
    | none, some t => if (t.attempt.part l).inProgress then s.tailEnds t l c else s
    | none, none => s

/-! ### Lane receivers (R153 to R157) -/

/-- Record the kinds of a reception in order. -/
def State.recordKinds (s : State) (l : Lane) (kinds : List LaneKind) : State := kinds.foldl (fun s k => s.recordKind l k) s

/-- End a reception: its kinds are recorded, the receiver goes to `after` with the copy in its buffer, and the merger is told when
the lead had been established (R153, R155, R158). -/
def State.endReception (s : State) (l : Lane) (r : Reception) (after : RecvState) : State :=
  let told := (s.lane l).leadUp
  let s := s.recordKinds l r.kinds
  let s := s.setLane l { s.lane l with recv := after, leadUp := false, buffer := r.copy }
  if told then s.mergerEnd l r.copy else s

/-- The receivers apply LENIENT (R155). -/
def State.lenient (s : State) : Bool := s.leadMode == .lenient

/-- A lane becomes OFF: its receiver stays in IDLE with an empty buffer, and a reception in progress ends without a copy (R153;
assumption log 13). A babble mark stays until the lane has been idle (R154). No LANE ERROR is set (DESIGN CHOICE, safe:
assumption log 59). -/
def State.turnOff (s : State) (l : Lane) : State :=
  let told := (s.lane l).leadUp
  let s := s.setLane l { s.lane l with health := .off, recv := .idle, leadUp := false, buffer := none }
  if told then s.mergerEnd l none else s

end Sys2Proof.Machine
end

