-- ==== Sys2Proof/Machine/Joining.lean ====
section
/-! DEFINITION. The Configuration Store and the joining procedure (chapter 10): the record's fields and their validation,
the end of the configuration window, and the resets. -/

namespace Sys2Proof.Machine

/-! ### Writing the record (R169, R183) -/

/-- The position of the field that stands at a location of the record (R182). -/
def fieldPosition (a : Nat) : Nat :=
  if a < 5 then a + 1
  else if a < 0x17 then 6 + (a - 5) / 2
  else if a < 0x19 then 15
  else if a < 0x22 then 16
  else if a < 0x25 then 17 + (a - 0x22)
  else if a < 0x27 then 20
  else if a < 0x28 then 21
  else if a < 0x2A then 22
  else if a < 0x2C then 23
  else if a < 0x2E then 24 + (a - 0x2C)
  else 26

/-- Store a byte of the record and set its field's written mark (R169, R183). -/
def ConfigStore.write (c : ConfigStore) (a : Nat) (v : Byte) : ConfigStore :=
  { c with image := c.image.setIfInBounds a v, written := c.written ||| (1#26 <<< (fieldPosition a - 1)) }

/-! ### Validation (R171) -/

/-- Fields without a default (R169). -/
def noDefault : List Nat := [1, 2, 3, 6, 8, 9, 10, 11, 12, 13]

/-- Fields checked for a DESK (R169). -/
def checkedForDesk : List Nat := [1, 2, 15, 17, 21, 22, 23, 24, 25]

/-- Fields checked for an AXIS (R169): all but the own rank. -/
def checkedForAxis : List Nat := [1, 2, 3, 4, 5, 6, 7, 8, 9, 10, 11, 12, 13, 14, 15, 16, 18, 19, 20, 21, 22, 23, 24, 25, 26]

/-- A value lies in a range. -/
def within (lo hi v : Nat) : Bool := lo ≤ v && v ≤ hi

/-- The RANGE check of a field (R169, R171). -/
def ConfigStore.inRange (c : ConfigStore) : Nat → Bool
  | 1 => within 1 99 c.number
  | 2 => within 0 1 c.roleByte
  | 3 => within 0 127 c.slot
  | 4 => within 0 15 c.front
  | 5 => within 0 15 c.rear
  | 6 => within 0 25000 c.drop
  | 7 => within 0 5000 c.top
  | 8 => within 0 2000 c.margin
  | 9 => within 0 40000 c.softLow
  | 10 => within 0 40000 c.softHigh
  | 11 => within 100 2000 c.maxSpeed
  | 12 => within 300 3000 c.stopDecel
  | 13 => within 5 500 c.followLimit
  | 14 => within 100 1000 c.brakeLimit
  | 16 => c.companionCount ≤ 8 && c.companions.all stationInRange
  | 17 => within 0 3 c.ownRank
  | 18 => within 0 3 c.cueRankLimit
  | 19 => within 0 3 c.clearRankLimit
  | 20 => within 100 30000 c.defaultWait
  | 21 => within 10 100 c.reportPeriod
  | 22 => within 50 1000 c.silenceLimit
  | 23 => within 100 1000 c.restateWindow
  | 24 => within 0 2 c.laneModeByte
  | 25 => within 0 1 c.leadModeByte
  | 26 => c.trimStep == 0 || within 100 5000 c.trimStep
  | _ => true

/-- The further check of a field (R169). -/
def ConfigStore.related (c : ConfigStore) : Nat → Bool
  | 9 => c.drop + c.margin ≤ c.softLow
  | 10 => c.softLow < c.softHigh
  | 16 => noneTwice c.companions && !c.companions.contains c.number
  | 22 => 3 * c.reportPeriod ≤ c.silenceLimit
  | _ => true

/-- The first check of a field that fails (R171). -/
def ConfigStore.fieldFault (c : ConfigStore) (pos : Nat) : Option FaultReason :=
  if noDefault.contains pos && !c.written.getLsbD (pos - 1) then some .unwritten
  else if !c.inRange pos then some .range
  else if !c.related pos then some .relation
  else none

/-- The fields checked for the role stored in field 2, in order. A stored role that no list defines fails at position 2,
before any field on which the roles differ. -/
def ConfigStore.checkedFields (c : ConfigStore) : List Nat := if c.roleByte == 1 then checkedForDesk else checkedForAxis

/-- The first check that fails, as the fault code names it (R171). -/
def ConfigStore.validate (c : ConfigStore) : Option (Nat × FaultReason) :=
  c.checkedFields.findSome? fun pos => (c.fieldFault pos).map fun r => (pos, r)

/-! ### The end of the configuration window (R170 to R173) -/

/-- Apply the lane mode once (R153). -/
def State.applyLaneMode (s : State) : State :=
  match s.cfg.laneMode with
  | .both => s
  | .aOnly => s.turnOff .b
  | .bOnly => s.turnOff .a

/-- Enter INERT (R172). -/
def State.enterInert (s : State) : State := (s.setMode .inert).setFlag .configFault

/-- Enter JOINING (R173): the view SUSPECT without a request (R39), the ANNOUNCE, the lane mode, and then the plant: a DESK
stops its link (R128) and holds an empty Stop Record (R106; assumption log 40), an AXIS with its filtered loop open takes an
opening (R133). The lane mode is applied after the mode has become JOINING, so that a discard that its cutting of a reception
brings about is a suspicion event and queues a RESTATE REQUEST in the same step (DEDUCED, unsafe: assumption log 13). -/
def State.enterJoining (s : State) : State :=
  let s := s.setMode .joining
  let s := { s with stop := { s.stop with joinStage := .announcing } }
  let s := ((s.setView .suspect).enqueue (freshFrame .announce .joining none)).applyLaneMode
  if s.isAxis then if s.drive.loopClosed then s else s.immediateStop .loop
  else { s with
    drive := { s.drive with linkOn := false, torqueReq := false, brakeReq := false }, stop := { s.stop with record := none } }

/-- The configuration window ends (R170, R171). -/
def State.endConfigWindow (s : State) : State :=
  if s.stop.mode = .config then
    let s := { s with cfg := { s.cfg with fault := s.cfg.validate } }
    match s.cfg.fault with
    | some _ => s.enterInert
    | none => s.enterJoining
  else s

/-! ### Resets (R180) -/

/-- The state after a reset with this Stop Record: every block at its reset value, time from zero, the filtered inputs at
the sampled levels. The commands that wait and the free-value counter are the model's own. -/
def State.resetWith (s : State) (record : Option StopRecord) : State :=
  { State.reset with
    free := s.free
    stop := { StopController.reset with record := record }
    drive := DrivePort.resetWith s.drive.loopRaw s.drive.stopRaw
    pending := s.pending }

/-- The content built at a win: a RESTATE from the table (R36), an ANNOUNCE from the latest feedback, with
the full-column mark (R174). -/
def State.contentAtWin (s : State) (f : TxFrame) : TxFrame :=
  match f.kind with
  | .restate => { f with body := some s.restateBody }
  | .announce => { f with body := some s.announceBody }
  | _ => f

/-- The full-column mark at the win of an ANNOUNCE (R174). -/
def State.markFullColumn (s : State) : State :=
  { s with stop := { s.stop with fullColumn := s.isAxis && s.actualHeight.isNone } }

/-- The joining procedure takes a feedback before the executor (R175): the first with position valid while the mark is set
queues the RELEASE that narrows the full column; under the duplicate mark the mark alone goes. -/
def State.narrowColumn (s : State) : State :=
  match s.stop.fullColumn, s.actualHeight with
  | true, some h =>
    let s := { s with stop := { s.stop with fullColumn := false } }
    if s.stop.duplicate then s else s.queueRelease .joining (s.ownOccupied h)
  | _, _ => s

end Sys2Proof.Machine
end

