-- ==== Sys2Proof/Machine/BusAccess.lean ====
section
/-! DEFINITION. Meanings of the transmission rows: BUS_IDLE, CONTEST_LOST, CONTEST_WON, COLLISION, FRAME_SENT, ECHO_LOST
(R146 to R151). -/

namespace Sys2Proof.Machine

/-- Change the Transmitter. -/
def State.mapTx (s : State) (g : Transmitter → Transmitter) : State := { s with tx := g s.tx }

/-- At an idle: the deferral count goes down, or the highest class with an unsent frame begins its contest (R146). -/
def State.atIdle (s : State) : State :=
  if s.tx.deferral ≠ 0 then s.mapTx fun t => { t with deferral := t.deferral - 1 }
  else match s.tx.state, s.nextClass with
    | .idle, some c => s.mapTx fun t => { t with state := .contest c }
    | _, _ => s

/-- BUS_IDLE (R146), when every judged lane is idle (R148). -/
def execBusIdle (s : State) : Answer := if s.busIsIdle then .next s.atIdle else .next s

/-- CONTEST_LOST (R147, R148): the frame stays unsent at the head. -/
def execContestLost (s : State) : Answer :=
  match s.tx.state with
  | .contest _ => .next ((s.mapTx fun t => { t with state := .idle }).bump .contestsLost)
  | .idle | .sending _ | .echoWait _ => .next s

/-- The head frame of a class wins: it is in flight, with content built now where its kind builds it at the win (R36, R147,
R174). -/
def State.winContest (s : State) (c : FrameClass) : State :=
  let announces := s.contestingOne c (·.kind == .announce)
  let s' := (s.mapHead c fun f => { s.contentAtWin f with inFlight := true }).mapTx fun t => { t with state := .sending c }
  if announces then s'.markFullColumn else s'

/-- CONTEST_WON (R147). -/
def execContestWon (s : State) : Answer :=
  match s.tx.state with
  | .contest c => .next (s.winContest c)
  | .idle | .sending _ | .echoWait _ => .next s

/-- The frame in flight is unsent again; content built at a win is built afresh at the next (R149). -/
def TxFrame.unsent (f : TxFrame) : TxFrame :=
  { f with inFlight := false, body := if f.kind == .restate || f.kind == .announce then none else f.body }

/-- A read-back difference after the access field (R149): the deferral is a free value from 1 to 8. Under the duplicate mark
an unsent SPACE or REPORT frame does not stay (R124). -/
def State.collide (s : State) (c : FrameClass) : State :=
  let d := (Config.deferralDraw s.free).val + 1
  let s := (s.mapHead c fun f => if f.inFlight then f.unsent else f).mapTx fun t => { t with state := .idle, deferral := d }
  let s := (s.bump .busCollision).drawn
  if s.stop.duplicate then s.dropReservations.frameTakenAway else s

/-- COLLISION (R149). -/
def execCollision (s : State) : Answer :=
  match s.tx.state with
  | .sending c => .next (s.collide c)
  | .idle | .contest _ | .echoWait _ => .next s

/-- FRAME_SENT (R147): the echo is expected and its timer runs. -/
def execFrameSent (s : State) : Answer :=
  match s.tx.state with
  | .sending c =>
    .next ((s.mapTx fun t =>
      { t with state := .echoWait c, expected := (s.inFlight c).map (·.kind), echoSince := some s.now }).bump .framesSent)
  | .idle | .contest _ | .echoWait _ => .next s

/-- The moment the echo timer runs out (R147, R151). -/
def State.echoDue (s : State) : Option (Nat × FrameClass) :=
  match s.tx.state, dueAt s.tx.echoSince echoLimitUs with
  | .echoWait c, some t => some (t, c)
  | _, _ => none

/-- ECHO_LOST (R151). -/
def execEchoLost (s : State) : Answer :=
  match s.echoDue with
  | some (t, c) => .next ((s.advanceTo t).loseEcho c)
  | none => .next s

end Sys2Proof.Machine
end

