-- ==== Sys2Proof/Machine/Frames.lean ====
section
/-! DEFINITION. Meanings of the fifteen frame rows: an accepted frame goes through the steps of R140 and then to the rule of
its kind. -/

namespace Sys2Proof.Machine

/-- HALT (R109). -/
def execHalt (source : BitVec 7) (rank : BitVec 2) (body : List Byte) (s : State) : Answer :=
  .next (s.takeFrame .halt source rank body)

/-- STOP (R108, R110). -/
def execStop (source : BitVec 7) (rank : BitVec 2) (body : List Byte) (s : State) : Answer :=
  .next (s.takeFrame .stop source rank body)

/-- CLEAR (R108, R111, R112). -/
def execClear (source : BitVec 7) (rank : BitVec 2) (body : List Byte) (s : State) : Answer :=
  .next (s.takeFrame .clear source rank body)

/-- ANNOUNCE (R176, R178). -/
def execAnnounce (source : BitVec 7) (rank : BitVec 2) (body : List Byte) (s : State) : Answer :=
  .next (s.takeFrame .announce source rank body)

/-- RESTATE_REQUEST (R35). -/
def execRestateRequest (source : BitVec 7) (rank : BitVec 2) (body : List Byte) (s : State) : Answer :=
  .next (s.takeFrame .restateRequest source rank body)

/-- RESTATE (R25, R47). -/
def execRestate (source : BitVec 7) (rank : BitVec 2) (body : List Byte) (s : State) : Answer :=
  .next (s.takeFrame .restate source rank body)

/-- CLAIM (R21). -/
def execClaim (source : BitVec 7) (rank : BitVec 2) (body : List Byte) (s : State) : Answer :=
  .next (s.takeFrame .claim source rank body)

/-- TRIM (R22). -/
def execTrim (source : BitVec 7) (rank : BitVec 2) (body : List Byte) (s : State) : Answer :=
  .next (s.takeFrame .trim source rank body)

/-- RELEASE (R23). -/
def execRelease (source : BitVec 7) (rank : BitVec 2) (body : List Byte) (s : State) : Answer :=
  .next (s.takeFrame .release source rank body)

/-- WITHDRAW (R24). -/
def execWithdraw (source : BitVec 7) (rank : BitVec 2) (body : List Byte) (s : State) : Answer :=
  .next (s.takeFrame .withdraw source rank body)

/-- STATUS (R51, R58). -/
def execStatus (source : BitVec 7) (rank : BitVec 2) (body : List Byte) (s : State) : Answer :=
  .next (s.takeFrame .status source rank body)

/-- LOAD (R68). -/
def execLoad (source : BitVec 7) (rank : BitVec 2) (body : List Byte) (s : State) : Answer :=
  .next (s.takeFrame .load source rank body)

/-- GO (R70). -/
def execGo (source : BitVec 7) (rank : BitVec 2) (body : List Byte) (s : State) : Answer :=
  .next (s.takeFrame .go source rank body)

/-- RESUME (R78). -/
def execResume (source : BitVec 7) (rank : BitVec 2) (body : List Byte) (s : State) : Answer :=
  .next (s.takeFrame .resume source rank body)

/-- CANCEL (R75, R76). -/
def execCancel (source : BitVec 7) (rank : BitVec 2) (body : List Byte) (s : State) : Answer :=
  .next (s.takeFrame .cancel source rank body)

end Sys2Proof.Machine
end

