-- ==== Sys2Proof/Machine/LaneEvents.lean ====
section
/-! DEFINITION. Meanings of the lane rows: LANE_ACTIVE, LEAD_ESTABLISHED, BABBLE, LANE_IDLE, RECEPTION_END, and the merger's
two timers (R153 to R163). -/

namespace Sys2Proof.Machine

/-- LANE_ACTIVE (R154, R155): an idle lane becomes active, and a receiver in IDLE enters LEAD; one that is OFF takes no
bits (R153). On a lane still active after a right trail the activity timer runs on, and the dominant level puts the receiver,
back in IDLE, into LEAD (assumption log 31). -/
def execLaneActive (lane : Lane) (s : State) : Answer :=
  let r := s.lane lane
  let recv := if r.recv = .idle ∧ r.health ≠ .off then RecvState.lead else r.recv
  .next (s.setLane lane { r with activeSince := some (r.activeSince.getD s.now), recv := recv })

/-- A lead can be established: the receiver is in LEAD without one, or in IDLE on a lane still active after a frame, is not
OFF and not ignored for BABBLE (R155, R160; assumption log 31). -/
def State.leadPossible (s : State) (l : Lane) : Bool :=
  let r := s.lane l
  r.health != .off && !r.babble && r.activeSince.isSome && !r.leadUp && (r.recv == .lead || r.recv == .idle)

/-- LEAD_ESTABLISHED (R155, R160, R163): the buffer is free for the new reception. -/
def execLeadEstablished (lane : Lane) (s : State) : Answer :=
  if s.leadPossible lane then
    .next (((s.setLane lane { s.lane lane with recv := .lead, leadUp := true, buffer := none }).mergerLead lane).settleMerger)
  else .next s

/-- The moment the activity timer passes 300 µs (R154). -/
def State.babbleDue (s : State) (l : Lane) : Option Nat :=
  let r := s.lane l
  if r.babble || r.health == .off then none else dueAt r.activeSince babbleLimitUs

/-- BABBLE with the bits of a reception in progress (R154): recorded, the mark set, the reception ended bad, TRAIL. -/
def State.babbles (s : State) (l : Lane) (bits : List Bool) : State :=
  let s := s.recordKind l .babble
  let s := s.setLane l { s.lane l with babble := true }
  let s := if (s.lane l).recv = .lead then s.endReception l (receive s.lenient true bits) .trail
    else s.setLane l { s.lane l with recv := .trail }
  s.settleMerger

/-- BABBLE (R154). -/
def execBabble (lane : Lane) (bits : List Bool) (s : State) : Answer :=
  match s.babbleDue lane with
  | some t => .next ((s.advanceTo t).babbles lane bits)
  | none => .next s

/-- The lane is idle: the activity timer stops, the babble mark clears, and the receiver returns to IDLE; a reception in
progress ends with the bits it took (R154, R155, R157). -/
def State.laneIdles (s : State) (l : Lane) (bits : List Bool) : State :=
  let s := s.setLane l { s.lane l with activeSince := none, babble := false }
  if (s.lane l).recv = .lead then s.endReception l (receive s.lenient false bits) .idle
  else s.setLane l { s.lane l with recv := .idle }

/-- LANE_IDLE (R154). -/
def execLaneIdle (lane : Lane) (bits : List Bool) (s : State) : Answer :=
  if (s.lane lane).activeSince.isSome then .next (s.laneIdles lane bits) else .next s

/-- A reception ends with the bits it took (R155 to R158): IDLE after a right trail, TRAIL otherwise. The lead mode is the one of this
moment, though the lead may have been taken in CONFIG (DESIGN CHOICE, unsafe: assumption log 66). -/
def State.receptionEnds (s : State) (l : Lane) (bits : List Bool) : State :=
  let r := receive s.lenient false bits
  s.endReception l r (if r.inTrail then .trail else .idle)

/-- RECEPTION_END (R158). -/
def execReceptionEnd (lane : Lane) (bits : List Bool) (s : State) : Answer :=
  if (s.lane lane).recv = .lead then .next (s.receptionEnds lane bits) else .next s

/-- The moment the skew window runs out (R161). -/
def State.skewDue (s : State) : Option (Nat × Attempt) :=
  match s.merger.collecting with
  | some a => (dueAt a.windowSince skewWindowUs).map fun t => (t, a)
  | none => none

/-- SKEW_WINDOW_EXPIRY (R161): the attempt is decided. -/
def execSkewWindowExpiry (s : State) : Answer :=
  match s.skewDue with
  | some (t, a) => .next ((s.advanceTo t).decideAttempt a).openNext.settleMerger
  | none => .next s

/-- The moment the tail ends (R161). -/
def State.tailDue (s : State) : Option Nat := dueAt (s.merger.tail.map (·.since)) skewWindowUs

/-- TAIL_EXPIRY (R161): the attempt closes. -/
def execTailExpiry (s : State) : Answer :=
  match s.tailDue with
  | some t => .next (s.advanceTo t).closeTail
  | none => .next s

end Sys2Proof.Machine
end

