-- ==== Sys2Proof/Machine/Plant.lean ====
section
/-! DEFINITION. The Drive Port (chapter 7) and what a feedback does: the link cycle, the port's tests, the executor's tests
(R103) and steps, the slipping brake (R132) and the input filters (R133). -/

namespace Sys2Proof.Machine

/-- Change the Drive Port. -/
def State.mapDrive (s : State) (g : DrivePort → DrivePort) : State := { s with drive := g s.drive }

/-! ### The link cycle (R96, R128) -/

/-- A setpoint may be produced: the own SWEEP is HELD and its band contains the load's occupied band there (R96). -/
def State.setpointAllowed (s : State) (height : Nat) : Bool :=
  match s.ownSweep with
  | some c => c.isHeld && (s.ownOccupied height).inside c.vertical
  | none => false

/-- Progress MOVED at the first setpoint that differs from the profile start height (R62, R96); no flag is set (R63). -/
def State.reportMoved (s : State) : State :=
  match s.cue.queue with
  | e :: rest => if s.exe.setpoint == s.exe.startHeight then s else s.mapCue fun c => { c with queue := { e with moved := true } :: rest }
  | [] => s

/-- Produce the setpoint of this message in MOVING or STOPPING (R96). -/
def State.produceSetpoint (s : State) : State :=
  match s.exe.trajectory with
  | some j =>
    let h := j.heightAt s.now
    if s.setpointAllowed h then (s.mapExe fun e => { e with setpoint := some h }).reportMoved else s
  | none => s

/-- The SETPOINT for the held setpoint, or a POLL where none is held. -/
def State.heldMessage (s : State) (speed : Int) : List Byte :=
  match s.exe.setpoint with
  | some h => setpointMessage h speed
  | none => pollMessage

/-- Send the outbound message of this cycle by the motion state (R128); the speed's free value is drawn. -/
def State.sendMessage (s : State) : State :=
  if !s.stop.mode.onBus then s.mapDrive fun d => { d with outbound := pollMessage }
  else match s.exe.motion with
    | .idle | .delaying | .gated | .claiming => s.mapDrive fun d => { d with outbound := pollMessage }
    | .unbraking | .settling | .paused => s.mapDrive fun d => { d with outbound := s.heldMessage 0 }
    | .moving | .stopping =>
      let s := s.produceSetpoint
      (s.mapDrive fun d => { d with outbound := s.heldMessage s.signedSpeed }).drawn

/-- One link cycle, at its moment (R128). -/
def State.linkCycle (s : State) : State :=
  if s.drive.linkOn then
    let at₀ := s.drive.nextLink
    ((s.advanceTo at₀).mapDrive fun d => { d with nextLink := at₀ + linkPeriodUs }).sendMessage
  else s

/-! ### Port tests on a feedback (R130, R132) -/

/-- FAULT or NOT READY begins at this feedback, against the one before it or ready with no fault (R130). -/
def driveConditionBegins (before : Option Feedback) (f : Feedback) : Bool :=
  let (ready, fault) := match before with
    | some g => (g.ready, g.fault)
    | none => (true, false)
  (f.fault && !fault) || (!f.ready && ready)

/-- The brake is the port's to watch (R132). -/
def State.watchesBrake (s : State) : Bool :=
  let still := match s.exe.motion with
    | .idle | .delaying | .gated | .claiming | .paused => true
    | .unbraking | .moving | .stopping | .settling => false
  let mode := match s.stop.mode with
    | .active | .halted | .stopped => true
    | .config | .inert | .joining => false
  s.isAxis && still && mode && !s.drive.brakeReq

/-- The brake time limit in µs. -/
def State.brakeLimitUs (s : State) : Nat := msec s.cfg.brakeLimit

/-- The request of a slipping brake, once in a measurement (R132). -/
def State.slipRequest (s : State) : State := (s.mapDrive fun d => { d with slip := .requested }).immediateStop .brake

/-- The slipping-brake measurement at a feedback that follows one of `gap` µs before: a gap longer than 5 ms counts as
missing feedback from there on (R132). A feedback taken where the port does not watch the brake ends a measurement, or a request
made, without an APPLIED (DESIGN CHOICE, unsafe: assumption log 58). -/
def State.measureSlip (s : State) (f : Feedback) (gap : Nat) : State :=
  if !s.watchesBrake || f.brake == some .applied then s.mapDrive fun d => { d with slip := .off }
  else match s.drive.slip with
    | .off => s.mapDrive fun d => { d with slip := .measuring 0 }
    | .measuring e =>
      let e := e + min gap feedbackLimitUs
      if s.brakeLimitUs ≤ e then s.slipRequest else s.mapDrive fun d => { d with slip := .measuring e }
    | .requested => s

/-! ### Executor tests on a feedback (R103) -/

/-- Motion states in which the following and position tests are made (R103). -/
def Motion.driven : Motion → Bool
  | .unbraking | .moving | .stopping | .settling => true
  | .idle | .delaying | .gated | .claiming | .paused => false

/-- Setpoint and actual height differ by more than the following limit. At a feedback with no valid height the condition counts as
ceased, so that its raised mark clears (DESIGN CHOICE, unsafe: assumption log 56). -/
def State.followingOff (s : State) : Bool :=
  match s.exe.setpoint, s.actualHeight with
  | some p, some h => s.cfg.followLimit < gap p h
  | _, _ => false

/-- The actual height lies beyond a soft limit by more than the following limit. At a feedback with no valid height the condition
counts as ceased, so that its raised mark clears (DESIGN CHOICE, unsafe: assumption log 56). -/
def State.beyondLimits (s : State) : Bool :=
  match s.actualHeight with
  | some h => h + s.cfg.followLimit < s.cfg.softLow || s.cfg.softHigh + s.cfg.followLimit < h
  | none => false

/-- From the mode ACTIVE onward (R103). -/
def Mode.fromActive : Mode → Bool
  | .active | .halted | .stopped => true
  | .config | .inert | .joining => false

/-- Change the raised marks. -/
def State.mapRaised (s : State) (g : RaisedMarks → RaisedMarks) : State := s.mapExe fun e => { e with raised := g e.raised }

/-- The FOLLOWING test. -/
def State.testFollowing (s : State) : State :=
  if !s.followingOff then s.mapRaised fun r => { r with following := false }
  else if s.exe.motion.driven && !s.exe.raised.following then
    (s.mapRaised fun r => { r with following := true }).immediateStop .following
  else s

/-- The LIMIT test. -/
def State.testLimit (s : State) : State :=
  if !s.beyondLimits then s.mapRaised fun r => { r with limit := false }
  else if s.stop.mode.fromActive && !s.exe.raised.limit then
    (s.mapRaised fun r => { r with limit := true }).immediateStop .limit
  else s

/-- The position test. -/
def State.testPosition (s : State) (f : Feedback) : State :=
  if f.positionValid then s.mapRaised fun r => { r with position := false }
  else if s.exe.motion.driven && !s.exe.raised.position then
    (s.mapRaised fun r => { r with position := true }).immediateStop .drive
  else s

/-- The executor's tests in the order of R103; the two conditions that timers raise have ceased with the state that
timed them. -/
def State.executorTests (s : State) (f : Feedback) : State :=
  let s := s.mapRaised fun r => { r with standstill := false, brake := false }
  (s.testFollowing.testLimit).testPosition f

/-! ### Executor steps on a feedback (chapter 5 and 6.5) -/

/-- The motion has come to rest in the setpoint (R100, R117). -/
def State.atRest (s : State) : Bool := s.isDue s.exe.restSince

/-- Watch for standstill once the motion is at rest (R100, R115). -/
def State.watchRest (s : State) (f : Feedback) : State :=
  if s.atRest then
    let s := s.watchSpeed f
    if s.stoodStill then s.standstillReached else s
  else s

/-- A TRIM may be due at a feedback with a valid position (R98). -/
def State.trimAtFeedback (s : State) : State :=
  match s.actualHeight with
  | some h => s.trimStepAt h
  | none => s

/-- What the executor does on a feedback in its motion state. -/
def State.executorStep (s : State) (f : Feedback) : State :=
  match s.exe.motion with
  | .idle | .delaying | .claiming | .paused => s
  | .gated => s.tryClaim
  | .unbraking => if f.brake = some .released then s.enterMoving else s
  | .moving => s.trimAtFeedback.watchRest f
  | .stopping =>
    match s.exe.stage with
    | .applying => if f.brake = some .applied then s.pauseApplied else s
    | .running | .tripped => s.watchRest f
  | .settling =>
    match s.exe.stage with
    | .applying => if f.brake = some .applied then s.settled else s
    | .tripped =>
      let s := s.noteBrake f
      if s.stop.duplicate || s.exe.purpose == some .hold then if f.brake = some .applied then s.settled else s
      else s.watchRest f
    | .running => s.noteBrake f

/-- A feedback that passed its check (R129): the port's tests, the joining procedure (R175), the executor's tests and
steps. -/
def State.takeFeedback (s : State) (f : Feedback) : State :=
  let before := s.drive.latest
  let gap := match before with
    | some g => s.now - g.arrival
    | none => 0
  let s := s.mapDrive fun d => { d with latest := some f, missing := false }
  let s := if driveConditionBegins before f then s.immediateStop .drive else s
  let s := (s.measureSlip f gap).narrowColumn
  (s.executorTests f).executorStep f

/-! ### Input filters (R133) -/

/-- The loop input is read: not at a DESK (R133). -/
def State.readsLoop (s : State) : Bool := s.isAxis || !s.stop.mode.onBus

/-- A change of a raw level starts its filter, or stops it when the level is back at the filtered one (R133). -/
def filterFrom (now : Nat) (raw filtered : Bool) : Option Nat := if raw = filtered then none else some now

end Sys2Proof.Machine
end

