-- ==== Sys2Proof/Machine/MotionEvents.lean ====
section
/-! DEFINITION. Meanings of the timer rows of the executor, the Claims Engine and the Peer Directory. Each takes effect
while its timer runs, at the moment the timer runs out (assumption log 2). -/

namespace Sys2Proof.Machine

/-- The moment the delay count reaches the start delay, if the mode stays ACTIVE (R86). -/
def State.delayDue (s : State) : Option Nat :=
  match s.exe.motion, s.stop.mode, s.exe.segment with
  | .delaying, .active, some g => some (s.now + (msec (g.delay.getD 0) - s.exe.delayElapsed))
  | _, _, _ => none

/-- DELAY_EXPIRY (R86). -/
def execDelayExpiry (s : State) : Answer :=
  match s.delayDue with
  | some t => .next ((s.advanceTo t).enterGated false)
  | none => .next s

/-- The moment the wait timer runs out (R91, R92). -/
def State.waitDue (s : State) : Option Nat :=
  match s.exe.segment with
  | some g => if s.exe.motion == .gated || s.wantsClaim then dueAt s.exe.waitSince (msec g.waitLimit) else none
  | none => none

/-- What the executor does with its segment at a wait expiry (R92). -/
def State.giveUpWaiting (s : State) : State := if s.exe.motion = .claiming then s.giveUpClaim else s.finishSegment

/-- WAIT_EXPIRED (R92): counted, the queue frozen, the claim given up. -/
def execWaitExpired (s : State) : Answer :=
  match s.waitDue with
  | some t =>
    .next ((((s.advanceTo t).mapExe fun e => { e with waitSince := none }).bump .waitExpired).freezeFor
      .waitExpired).giveUpWaiting
  | none => .next s

/-- The brake is timed by the executor (R94, R101, R118). -/
def State.timesBrake (s : State) : Bool :=
  match s.exe.motion with
  | .unbraking => true
  | .settling | .stopping => s.exe.stage == .applying
  | .idle | .delaying | .gated | .claiming | .moving | .paused => false

/-- The moment the brake time limit runs out. -/
def State.brakeDue (s : State) : Option Nat := if s.timesBrake then dueAt s.exe.brakeSince s.brakeLimitUs else none

/-- Raise the BRAKE condition (R103). -/
def State.raiseBrake (s : State) : State :=
  if s.exe.raised.brake then s else (s.mapRaised fun r => { r with brake := true }).immediateStop .brake

/-- BRAKE_TIME_LIMIT (R94, R101, R118). -/
def execBrakeTimeLimit (s : State) : Answer :=
  match s.brakeDue with
  | some t => .next ((s.advanceTo t).mapExe fun e => { e with brakeSince := none }).raiseBrake
  | none => .next s

/-- The executor watches for standstill: MOVING or STOPPING at rest (R100), or SETTLING after a trip (R115). -/
def State.watchesRest (s : State) : Bool :=
  match s.exe.motion, s.exe.stage with
  | .moving, _ | .stopping, .running | .settling, .tripped => true
  | _, _ => false

/-- The moment 50 ms of speed below 5 mm/s are complete, if the feedback goes on as it is (R100, R115). -/
def State.standstillDue (s : State) : Option Nat :=
  if s.watchesRest && !s.drive.missing then dueAt s.exe.standSince standstillUs else none

/-- STANDSTILL (R100, R115, R118). -/
def execStandstill (s : State) : Answer :=
  match s.standstillDue with
  | some t => .next (s.advanceTo t).standstillReached
  | none => .next s

/-- The moment 1,000 ms have passed since the rest in the setpoint (R100). -/
def State.standstillLimit (s : State) : Option Nat :=
  match s.exe.motion, s.exe.stage with
  | .moving, _ | .stopping, .running => dueAt s.exe.restSince restLimitUs
  | _, _ => none

/-- Raise the missing standstill (R100, R103). -/
def State.raiseStandstill (s : State) : State :=
  if s.exe.raised.standstill then s else (s.mapRaised fun r => { r with standstill := true }).immediateStop .following

/-- STANDSTILL_TIMEOUT (R100). -/
def execStandstillTimeout (s : State) : Answer :=
  match s.standstillLimit with
  | some t => .next ((s.advanceTo t).mapExe fun e => { e with restSince := none }).raiseStandstill
  | none => .next s

/-- The moment 1,000 ms have passed since a trip (R115). -/
def State.tripRestDue (s : State) : Option Nat :=
  match s.exe.motion, s.exe.stage with
  | .settling, .tripped => dueAt s.exe.restSince restLimitUs
  | _, _ => none

/-- TRIP_REST_TIMEOUT (R115). -/
def execTripRestTimeout (s : State) : Answer :=
  match s.tripRestDue with
  | some t => .next ((s.advanceTo t).mapExe fun e => { e with restSince := none }).tripRested
  | none => .next s

/-- The moment the restate window runs out (R37, R38). -/
def State.windowDue (s : State) : Option Nat := dueAt s.claims.windowSince (msec s.cfg.restateWindow)

/-- RESTATE_WINDOW_EXPIRY (R38, R177). -/
def execRestateWindowExpiry (s : State) : Answer :=
  match s.windowDue with
  | some t => .next (s.advanceTo t).windowEnds
  | none => .next s

/-- SILENCE (R53) of a station. -/
def execSilence (station : BitVec 7) (s : State) : Answer :=
  match (s.entry station.toNat).bind s.silenceDue with
  | some t => .next ((s.advanceTo t).silence station.toNat)
  | none => .next s

/-- REPORT_PERIOD (R55, R57): the timer restarts at once. -/
def execReportPeriod (s : State) : Answer :=
  match s.dir.reportDueAt with
  | some t =>
    let s := s.advanceTo t
    .next { s with dir := { s.dir with reportDueAt := some (t + msec s.cfg.reportPeriod) } }.produceStatus
  | none => .next s

end Sys2Proof.Machine
end

