-- ==== Sys2Proof/Machine/PlantEvents.lean ====
section
/-! DEFINITION. Meanings of the drive's and the plant's rows: LINK_CYCLE, FEEDBACK, FEEDBACK_MISSING, the two inputs with
their filters, SLIPPING_BRAKE. -/

namespace Sys2Proof.Machine

/-- LINK_CYCLE (R128). -/
def execLinkCycle (s : State) : Answer := .next s.linkCycle

/-- FEEDBACK (R129): a message that fails its check is discarded and counted. A DESK's link is stopped and takes none. -/
def execFeedback (message : List Byte) (s : State) : Answer :=
  if s.drive.linkOn then
    match parseFeedback s.now message with
    | some f => .next (s.takeFeedback f)
    | none => .next (s.bump .feedbackBad)
  else .next s

/-- The moment MISSING begins: 5 ms after the last good feedback or the end of the reset, in every mode and at a DESK whose link
has stopped (R130). -/
def State.missingDue (s : State) : Option Nat :=
  if s.drive.missing then none
  else
    some ((match s.drive.latest with
      | some f => f.arrival
      | none => 0) + feedbackLimitUs)

/-- FEEDBACK_MISSING (R130): counted in every mode; the request is an AXIS station's. -/
def execFeedbackMissing (s : State) : Answer :=
  match s.missingDue with
  | some t =>
    .next ((((s.advanceTo t).mapDrive fun d => { d with missing := true }).bump .feedbackMissing).immediateStop .drive)
  | none => .next s

/-- LOOP_INPUT_CHANGE (R131, R133): the lines follow the raw level at once. -/
def execLoopInputChange (closed : Bool) (s : State) : Answer :=
  if s.drive.loopRaw = closed then .next s
  else
    .next (s.mapDrive fun d =>
      { d with loopRaw := closed, loopSince := if s.readsLoop then filterFrom s.now closed d.loopClosed else none })

/-- The moment the filtered loop state takes the raw level (R133). -/
def State.loopDue (s : State) : Option Nat := if s.readsLoop then dueAt s.drive.loopSince loopFilterUs else none

/-- LOOP_OPENING (R114, R133). -/
def execLoopOpening (s : State) : Answer :=
  match s.loopDue with
  | some t =>
    if s.drive.loopClosed && !s.drive.loopRaw then
      .next (((s.advanceTo t).mapDrive fun d => { d with loopClosed := false, loopSince := none }).immediateStop .loop)
    else .next s
  | none => .next s

/-- LOOP_CLOSING (R133): no request, no change of mode (R114). -/
def execLoopClosing (s : State) : Answer :=
  match s.loopDue with
  | some t =>
    if !s.drive.loopClosed && s.drive.loopRaw then
      .next ((s.advanceTo t).mapDrive fun d => { d with loopClosed := true, loopSince := none })
    else .next s
  | none => .next s

/-- LOCAL_STOP_INPUT_CHANGE (R133). -/
def execLocalStopInputChange (asserted : Bool) (s : State) : Answer :=
  if s.drive.stopRaw = asserted then .next s
  else
    .next (s.mapDrive fun d =>
      { d with stopRaw := asserted, stopSince := filterFrom s.now asserted d.stopAsserted })

/-- The moment the filtered local stop state takes the raw level (R133). -/
def State.stopInputDue (s : State) : Option Nat := dueAt s.drive.stopSince stopFilterUs

/-- LOCAL_STOP (R116, R133). -/
def execLocalStop (s : State) : Answer :=
  match s.stopInputDue with
  | some t =>
    if !s.drive.stopAsserted && s.drive.stopRaw then
      .next (((s.advanceTo t).mapDrive fun d => { d with stopAsserted := true, stopSince := none }).localStopRequest)
    else .next s
  | none => .next s

/-- LOCAL_STOP_RELEASE (R133): no request. -/
def execLocalStopRelease (s : State) : Answer :=
  match s.stopInputDue with
  | some t =>
    if s.drive.stopAsserted && !s.drive.stopRaw then
      .next ((s.advanceTo t).mapDrive fun d => { d with stopAsserted := false, stopSince := none })
    else .next s
  | none => .next s

/-- The moment a running measurement reaches the brake time limit if every feedback until then reports as the last one did
(R132); a missing feedback advances nothing. -/
def State.slipDue (s : State) : Option Nat :=
  match s.drive.slip, s.liveFeedback with
  | .measuring e, some f => if s.watchesBrake then some (f.arrival + (s.brakeLimitUs - e)) else none
  | _, _ => none

/-- SLIPPING_BRAKE (R132). -/
def execSlippingBrake (s : State) : Answer :=
  match s.slipDue with
  | some t => .next (s.advanceTo t).slipRequest
  | none => .next s

end Sys2Proof.Machine
end

