-- ==== Sys2Proof/Machine/Port.lean ====
section
/-! DEFINITION. The Controller Port (chapter 11): what the window shows, selections and their copies, flags that reads
clear, the mailbox, writes by location, and whole SPI transactions. -/

namespace Sys2Proof.Machine

/-- Change the port. -/
def State.mapPort (s : State) (g : ControllerPort → ControllerPort) : State := { s with port := g s.port }

/-- Change the mailbox. -/
def State.mapMailbox (s : State) (g : Mailbox → Mailbox) : State := s.mapPort fun p => { p with mailbox := g p.mailbox }

/-- A bit as a number. -/
def bitAt (i : Nat) (b : Bool) : Nat := if b then 2 ^ i else 0

/-! ### Values the window shows (R182) -/

/-- Location 0x4C. -/
def State.lineByte (s : State) : Byte :=
  byteOf (bitAt 0 s.stop.duplicate + bitAt 1 s.drive.torqueReq + bitAt 2 s.drive.brakeReq + bitAt 3 s.tqenLine
    + bitAt 4 s.bkrelLine + bitAt 5 s.drive.loopClosed + bitAt 6 s.drive.stopAsserted + bitAt 7 s.drive.missing)

/-- Location 0x4D; bit 7, which has no name, reads 0 (DESIGN CHOICE, safe: assumption log 67). -/
def State.joinByte (s : State) : Byte :=
  byteOf (s.laneA.health.code + 4 * s.laneB.health.code + 16 * s.stop.joinStage.code + bitAt 6 s.stop.fullColumn)

/-- The four bytes of a time, most significant first. -/
def bytes32 (n : Nat) : List Byte := bytes16 (n / 65536) ++ bytes16 n

/-- The Stop Record at 0x50 to 0x5F (R182); an empty record reads as zeros (R126). -/
def StopRecord.bytes (r : StopRecord) : List Byte :=
  [byteOf r.cause.code, byteOf (r.source.getD 0)] ++ bytes16 (r.height.getD 65535) ++ bytesOfWord r.speed
    ++ bytes16 ((r.active.map Prod.fst).getD 0) ++ [byteOf ((r.active.map Prod.snd).getD 0), byteOf r.motion.code]
    ++ bytes32 r.timeMs ++ bytes16 r.further

/-- The Stop Record's bytes. Every byte of an empty one is 0, the two of its height as well (DESIGN CHOICE, safe:
assumption log 44). -/
def State.stopRecordBytes (s : State) : List Byte :=
  match s.stop.record with
  | some r => r.bytes
  | none => List.replicate 16 0

/-- The two bytes of the configuration fault code (R182). -/
def State.faultBytes (s : State) : List Byte :=
  match s.cfg.fault with
  | some (pos, reason) => [byteOf pos, byteOf reason.code]
  | none => [0, 0]

/-- The two bytes of a lane's kind set: LEAD FLAW to BABBLE in the first, OVERRUN and MISSING in the second (R182), whose other bits read
0 (DESIGN CHOICE, safe: assumption log 67). -/
def LaneReceiver.kindByte (r : LaneReceiver) (second : Bool) : Byte :=
  if second then (r.kindSet.extractLsb' 8 2).setWidth 8 else r.kindSet.extractLsb' 0 8

/-- The sync snapshot at 0x66 to 0x68 (R182); bits 4 to 7 of 0x67 read 0 (DESIGN CHOICE, safe: assumption log 67). -/
def State.snapshotBytes (s : State) : List Byte :=
  match s.merger.snapshot with
  | some x => [byteOf x.event.code, byteOf (bitAt 0 x.leadA + bitAt 1 x.leadB + bitAt 2 x.cleanA + bitAt 3 x.cleanB),
      byteOf (x.source.getD 0)]
  | none => [0, 0, 0]

/-- Location 0xE5 (R188); bits 4 to 7 read 0 (DESIGN CHOICE, safe: assumption log 67). -/
def Mailbox.stateByte (m : Mailbox) : Byte := byteOf (bitAt 0 m.busy + 2 * m.outcome.code)

/-- A byte of a list, 0 past its end. -/
def nthByte (bytes : List Byte) (i : Nat) : Byte := bytes.getD i 0

/-- The byte of the mailbox body at the offset (R189); an access at offset 96 is ignored and shifts out a byte the manual
does not state (assumption log 10). -/
def State.bodyByte (s : State) : Byte :=
  let m := s.port.mailbox
  if m.offset.toNat < 96 then nthByte m.buffer.toList m.offset.toNat else Config.ignoredReadByte s.free

/-- The byte a location from 0x40 to 0x7F shows at this moment. Before any feedback has passed its check, 0x6E shows 0
(DESIGN CHOICE, safe: assumption log 44). -/
def State.statusByte (s : State) (a : Nat) : Byte :=
  if 0x50 ≤ a && a < 0x60 then nthByte s.stopRecordBytes (a - 0x50)
  else match a with
    | 0x41 => byteOf s.stop.mode.code
    | 0x42 => byteOf s.exe.motion.code
    | 0x43 => byteOf s.claims.view.code
    | 0x44 => byteOf s.cue.freeze.code
    | 0x45 => byteOf s.cue.parked.code
    | 0x46 => nthByte s.faultBytes 0
    | 0x47 => nthByte s.faultBytes 1
    | 0x48 => s.port.flags.extractLsb' 0 8
    | 0x49 => s.port.flags.extractLsb' 8 8
    | 0x4A => s.port.enables.extractLsb' 0 8
    | 0x4B => s.port.enables.extractLsb' 8 8
    | 0x4C => s.lineByte
    | 0x4D => s.joinByte
    | 0x4E => nthByte (bytes16 (s.actualHeight.getD 65535)) 0
    | 0x4F => nthByte (bytes16 (s.actualHeight.getD 65535)) 1
    | 0x60 => s.laneA.kindByte false
    | 0x61 => s.laneA.kindByte true
    | 0x62 => s.laneB.kindByte false
    | 0x63 => s.laneB.kindByte true
    | 0x65 => s.port.laneCountValue
    | 0x66 => nthByte s.snapshotBytes 0
    | 0x67 => nthByte s.snapshotBytes 1
    | 0x68 => nthByte s.snapshotBytes 2
    | 0x6A => nthByte (bytesOfWord s.port.counterValue) 0
    | 0x6B => nthByte (bytesOfWord s.port.counterValue) 1
    | 0x6C => nthByte (bytesOfWord s.actualSpeed) 0
    | 0x6D => nthByte (bytesOfWord s.actualSpeed) 1
    | 0x6E => match s.drive.latest with
      | some f => f.condition
      | none => 0
    | 0x6F => byteOf s.dec.lastCode.code
    | 0x70 => nthByte (bytes16 (s.dec.lastCue.getD 0)) 0
    | 0x71 => nthByte (bytes16 (s.dec.lastCue.getD 0)) 1
    | _ => 0

/-- The byte a location of the directory window shows (R187). The bytes for which 11.5 names no content, 0x98 to 0x9B on page 1 and 0x9C to
0x9F, read 0 (DESIGN CHOICE, safe: assumption log 67). -/
def ControllerPort.dirByte (p : ControllerPort) (a : Nat) : Byte :=
  if a = 0x80 then p.dirIndex
  else if a = 0x81 then p.dirPage
  else if a < 0x86 then nthByte p.dirHead (a - 0x82)
  else if p.dirPage = 0 then nthByte p.dirRecord (a - 0x86)
  else nthByte p.dirStatus (a - 0x86)

/-- The byte a location shows at this moment (R182); locations not listed read 0 (R181). So do 0xD8 to 0xDF, which are listed and for
which 11.5 names no content (DESIGN CHOICE, safe: assumption log 67). -/
def State.windowByte (s : State) (addr : Byte) : Byte :=
  let a := addr.toNat
  if a < 0x30 then s.cfg.byteAt a
  else if a < 0x40 then 0
  else if a < 0x80 then s.statusByte a
  else if a < 0xA0 then s.port.dirByte a
  else if a < 0xC0 then
    if a = 0xA0 then s.port.claimsIndex else if a = 0xA1 then s.port.claimsOwner else nthByte s.port.claimsCopy (a - 0xA2)
  else if a < 0xE0 then if a = 0xC0 then s.port.queuePosition else nthByte s.port.queueCopy (a - 0xC1)
  else match a with
    | 0xE0 => s.port.mailbox.kind
    | 0xE1 => s.port.mailbox.length
    | 0xE2 => s.port.mailbox.offset
    | 0xE3 => s.bodyByte
    | 0xE5 => s.port.mailbox.stateByte
    | _ => 0

/-! ### Selections (R187) -/

/-- The first four bytes of a directory copy: presence bits, number, age; bits 3 to 7 of 0x82 read 0 (DESIGN CHOICE, safe: assumption
log 67). -/
def State.entryHead (s : State) (e : Entry) : List Byte :=
  [byteOf (1 + bitAt 1 e.present + bitAt 2 e.lastStatus.isSome), byteOf e.number] ++ bytes16 (s.ageMs e)

/-- Copy the entry at an index into the directory window. -/
def State.selectDirectory (s : State) (index : Byte) : State :=
  s.mapPort fun p =>
    match s.dir.entries[index.toNat]? with
    | some e =>
      { p with
        dirIndex := index
        dirHead := s.entryHead e
        dirRecord := e.record.encode
        dirStatus := match e.lastStatus with
          | some r => r.encode
          | none => List.replicate 18 0 }
    | none =>
      { p with
        dirIndex := index
        dirHead := List.replicate 4 0
        dirRecord := List.replicate 22 0
        dirStatus := List.replicate 18 0 }

/-- The claims window for no claim, one or two: owner, number and confirmed marks, then the records; bits 4 to 7 of 0xA3 read 0 (DESIGN
CHOICE, safe: assumption log 67). -/
def claimsBytes : List Claim → List Byte
  | [] => List.replicate 30 0
  | [c] => [byteOf c.owner, byteOf (1 + bitAt 2 c.confirmed)] ++ c.record.encode ++ List.replicate 14 0
  | c :: d :: _ =>
    [byteOf c.owner, byteOf (2 + bitAt 2 c.confirmed + bitAt 3 d.confirmed)] ++ c.record.encode ++ d.record.encode

/-- Copy the claim at an index, or an owner's claims, into the claims window. -/
def State.selectClaims (s : State) (byOwner : Bool) (value : Byte) : State :=
  s.mapPort fun p =>
    if byOwner then { p with claimsOwner := value, claimsCopy := claimsBytes (claimsOf s.claims.table value.toNat) }
    else
      { p with
        claimsIndex := value
        claimsCopy := claimsBytes ((s.claims.table.filter fun (i, _) => i == value.toNat).map Prod.snd) }

/-- The queue window for an entry; bit 7 of 0xC1 reads 0 (DESIGN CHOICE, safe: assumption log 67). -/
def QueueEntry.bytes (e : QueueEntry) : List Byte :=
  [byteOf (1 + bitAt 1 e.armed + bitAt 2 e.started + bitAt 3 e.cancelling + bitAt 4 e.moved + bitAt 5 e.segment.isVoid
      + bitAt 6 e.segment.trim), byteOf e.specificity] ++ bytes16 e.segment.cue ++ e.segment.encode

/-- Copy the entry at a queue position into the queue window. -/
def State.selectQueue (s : State) (position : Byte) : State :=
  s.mapPort fun p =>
    { p with
      queuePosition := position
      queueCopy := match s.cue.queue[position.toNat]? with
        | some e => e.bytes
        | none => List.replicate 23 0 }

/-- Capture a counter; numbers 36 and above capture 0. -/
def State.selectCounter (s : State) (number : Byte) : State :=
  s.mapPort fun p => { p with counterSelect := number, counterValue := s.counters.toList.getD number.toNat 0 }

/-- Capture a lane error count: the lane in bit 7, the kind's number in bits 0 to 3; a kind number above 9 captures 0. -/
def State.selectLaneCount (s : State) (selection : Byte) : State :=
  let r := if selection.getLsbD 7 then s.laneB else s.laneA
  s.mapPort fun p =>
    { p with laneCountSelect := selection, laneCountValue := r.counts.toList.getD (selection &&& 0x0F).toNat 0 }

/-! ### The mailbox (R188 to R190) -/

/-- After a data access the offset stands one further, at most at 96 (R188, R189). -/
def Mailbox.stepped (m : Mailbox) : Mailbox := if m.offset.toNat < 96 then { m with offset := m.offset + 1 } else m

/-- A write of body data; ignored at offset 96 (R189). -/
def Mailbox.store (m : Mailbox) (v : Byte) : Mailbox :=
  if m.offset.toNat < 96 then { m with buffer := m.buffer.setIfInBounds m.offset.toNat v }.stepped else m

/-- A write to 0xE2; values above 96 store 96 (R189). -/
def Mailbox.setOffset (m : Mailbox) (v : Byte) : Mailbox := { m with offset := if 96 < v.toNat then 96 else v }

/-- The kinds a submit takes (R189). -/
def State.mailboxKind (s : State) : Option Kind :=
  match Kind.ofCode s.port.mailbox.kind.toNat with
  | some .halt => some .halt
  | some .stop => some .stop
  | some .clear => if s.isAxis then none else some .clear
  | some .load => if s.isAxis then none else some .load
  | some .go => if s.isAxis then none else some .go
  | some .resume => if s.isAxis then none else some .resume
  | some .cancel => if s.isAxis then none else some .cancel
  | _ => none

/-- Set the outcome of a submit. -/
def State.submitted (s : State) (o : SubmitOutcome) : State := s.mapMailbox fun m => { m with outcome := o }

/-- SUBMIT (R189, R190). -/
def State.submitMailbox (s : State) : State :=
  let m := s.port.mailbox
  if m.busy then s.submitted .refusedBusy
  else if !s.stop.mode.onBus then s.submitted .refusedMode
  else match s.mailboxKind with
    | none => s.submitted .refusedKind
    | some k =>
      if 96 < m.length.toNat then s.submitted .refusedLength
      else
        ((s.submitted .accepted).mapMailbox fun m => { m with busy := true }).enqueue
          (freshFrame k .mailbox (some (m.buffer.toList.take m.length.toNat)))

/-! ### Reads (R181, R186) -/

/-- The locations captured together with a first byte (R181): height, speed, the last refusal's cue, the Stop Record, the
fault code. -/
def captureGroups : List (Nat × Nat) := [(0x46, 2), (0x4E, 2), (0x50, 16), (0x6C, 2), (0x70, 2)]

/-- The locations captured with this one, besides itself: the rest of its value. So a burst that starts inside a value captures what
follows at the byte it starts with (DESIGN CHOICE, safe: assumption log 60). -/
def capturedWith (a : Nat) : List Nat :=
  match captureGroups.find? fun (first, n) => first ≤ a && a < first + n with
  | some (first, n) => ((List.range n).map (first + ·)).filter (a < ·)
  | none => []

/-- The byte a read shifts out: the captured one if its group was captured in this transaction, else the live one. -/
def State.readByte (s : State) (addr : Byte) : Byte :=
  match s.port.captured.find? fun (a, _) => a == addr.toNat with
  | some (_, v) => v
  | none => s.windowByte addr

/-- Shift a byte out and keep what is captured with it (R181). -/
def State.shiftOut (s : State) (addr : Byte) : State :=
  let v := s.readByte addr
  let fresh := if s.port.captured.any (fun (a, _) => a == addr.toNat) then []
    else (capturedWith addr.toNat).map fun a => (a, s.windowByte (BitVec.ofNat 8 a))
  s.mapPort fun p => { p with sdo := v, captured := p.captured.filter (fun (a, _) => a != addr.toNat) ++ fresh }

/-- Clear the flags of a byte that the read returned (R186). -/
def State.clearFlags (s : State) (second : Bool) (v : Byte) : State :=
  s.mapPort fun p => { p with flags := p.flags &&& ~~~(if second then v.setWidth 16 <<< 8 else v.setWidth 16) }

/-- Clear the kinds of a byte of a lane's set that the read returned (R159, R186). -/
def State.clearKinds (s : State) (l : Lane) (second : Bool) (v : Byte) : State :=
  let r := s.lane l
  s.setLane l { r with kindSet := r.kindSet &&& ~~~(if second then v.setWidth 10 <<< 8 else v.setWidth 10) }

/-- A read of one byte of the interrupt flags (R186). -/
def State.readFlags (s : State) (addr : Byte) : State :=
  let v := s.readByte addr
  let s := s.shiftOut addr
  if addr = 0x48 then s.clearFlags false v else if addr = 0x49 then s.clearFlags true v else s

/-- A read of one byte of a lane kind set (R159, R186). -/
def State.readKinds (s : State) (addr : Byte) : State :=
  let v := s.readByte addr
  let s := s.shiftOut addr
  if addr = 0x60 then s.clearKinds .a false v
  else if addr = 0x61 then s.clearKinds .a true v
  else if addr = 0x62 then s.clearKinds .b false v
  else if addr = 0x63 then s.clearKinds .b true v
  else s

/-- A read of the body data (R188, R189); the free-value counter steps. -/
def State.readBody (s : State) : State := ((s.shiftOut 0xE3).mapMailbox Mailbox.stepped).drawn

/-- A completed read of any location (R181, R186, R188). -/
def State.readLocation (s : State) (addr : Byte) : State :=
  if addr = 0x48 ∨ addr = 0x49 then s.readFlags addr
  else if 0x60 ≤ addr.toNat ∧ addr.toNat ≤ 0x63 then s.readKinds addr
  else if addr = 0xE3 then s.readBody
  else s.shiftOut addr

/-! ### Writes (R182 to R184) -/

/-- A write to a record location (R170, R183). -/
def State.writeRecord (s : State) (addr v : Byte) : State :=
  if s.stop.mode = .config then { s with cfg := s.cfg.write addr.toNat v } else s.setFlag .writeLate

/-- A write to a reserved location (R183). -/
def State.writeReserved (s : State) : State := if s.stop.mode = .config then s else s.setFlag .writeLate

/-- A write to the enables (R185, R186). -/
def State.writeEnables (s : State) (addr v : Byte) : State :=
  s.mapPort fun p =>
    if addr = 0x4A then { p with enables := p.enables.extractLsb' 8 8 ++ v }
    else if addr = 0x4B then { p with enables := v ++ p.enables.extractLsb' 0 8 }
    else p

/-- PARK REQUEST (R80, R81). -/
def State.parkRequest (s : State) : State :=
  if s.isAxis && s.stop.mode.onBus && s.cue.parked == .notParked then (s.setParked .pending).parkEffect else s

/-- UNPARK (R80). -/
def State.unpark (s : State) : State := if s.isAxis && s.stop.mode.onBus then s.setParked .notParked else s

/-- ACK STOP RECORD (R126). -/
def State.ackStopRecord (s : State) : State := { s with stop := { s.stop with record := none } }

/-- A command written to 0x40 (R184). -/
def State.command (s : State) (v : Byte) : State :=
  match v.toNat with
  | 1 => s.endConfigWindow
  | 2 => s.parkRequest
  | 3 => s.unpark
  | 4 => s.ackStopRecord
  | 5 => s.clearCounters
  | _ => s

/-- The page selection: it makes no new copy (R187). -/
def State.selectPage (s : State) (v : Byte) : State := s.mapPort fun p => { p with dirPage := if v = 1 then 1 else 0 }

/-- A completed write of any location (R181, R182); one that is read-only or not listed is ignored. -/
def State.writeLocation (s : State) (addr v : Byte) : State :=
  if addr.toNat < 0x30 then s.writeRecord addr v
  else if addr.toNat < 0x40 then s.writeReserved
  else match addr.toNat with
    | 0x40 => s.command v
    | 0x4A | 0x4B => s.writeEnables addr v
    | 0x64 => s.selectLaneCount v
    | 0x69 => s.selectCounter v
    | 0x80 => s.selectDirectory v
    | 0x81 => s.selectPage v
    | 0xA0 => s.selectClaims false v
    | 0xA1 => s.selectClaims true v
    | 0xC0 => s.selectQueue v
    | 0xE0 => s.mapMailbox fun m => { m with kind := v }
    | 0xE1 => s.mapMailbox fun m => { m with length := v }
    | 0xE2 => s.mapMailbox (·.setOffset v)
    | 0xE3 => s.mapMailbox (·.store v)
    | 0xE4 => s.submitMailbox
    | _ => s

/-! ### Whole transactions (R181) -/

/-- The address after this one, wrapping from 0xFF to 0x00. -/
def nextAddress (addr : Byte) : Byte := addr + 1

/-- A write transaction's data bytes, each taken as it completes. The address rises after every byte, at 0xE3 too (R181), where 11.7
speaks of a burst through 0xE3 (DESIGN CHOICE, unsafe: assumption log 61). -/
def State.writeBurst (s : State) (addr : Byte) : List Byte → State
  | [] => s
  | v :: vs => (s.writeLocation addr v).writeBurst (nextAddress addr) vs

/-- A read transaction of `n` data bytes: the state after it and the bytes shifted out. -/
def State.readBurst (s : State) (addr : Byte) : (n : Nat) → State × List Byte
  | 0 => (s, [])
  | n + 1 =>
    let s' := s.readLocation addr
    let (s'', rest) := s'.readBurst (nextAddress addr) n
    (s'', s'.port.sdo :: rest)

/-- A transaction from one falling edge of CSN to the next rising edge: operation, start address, data (R181). The read
captures live within it; any other operation byte is ignored and shifts zeros. -/
def State.transaction (s : State) : List Byte → State × List Byte
  | op :: addr :: data =>
    let s := s.mapPort fun p => { p with captured := [] }
    if op = 0x02 then (s.writeBurst addr data, [])
    else if op = 0x03 then
      let (s', out) := s.readBurst addr data.length
      (s'.mapPort fun p => { p with captured := [] }, out)
    else (s, data.map fun _ => 0)
  | _ => (s, [])

end Sys2Proof.Machine
end

