-- ==== Sys2Proof/Machine/PortAccess.lean ====
section
/-! DEFINITION. Meanings of the controller port's rows: the five commands, the record, reads that clear, selections, the
mailbox and every other location. Each is one completed data byte (R181). -/

namespace Sys2Proof.Machine

/-- CLOSE (R170, R184). -/
def execClose (s : State) : Answer := .next s.endConfigWindow

/-- PARK_REQUEST (R80, R184). -/
def execParkRequest (s : State) : Answer := .next s.parkRequest

/-- UNPARK (R80, R184). -/
def execUnpark (s : State) : Answer := .next s.unpark

/-- ACK_STOP_RECORD (R126, R184). -/
def execAckStopRecord (s : State) : Answer := .next s.ackStopRecord

/-- CLEAR_COUNTERS (R184). -/
def execClearCounters (s : State) : Answer := .next s.clearCounters

/-- RECORD_WRITE (R183): a location outside the record is written as its own row says. -/
def execRecordWrite (addr value : Byte) (s : State) : Answer :=
  if addr.toNat < 0x30 then .next (s.writeRecord addr value) else .next (s.writeLocation addr value)

/-- INTERRUPT_FLAGS_READ (R186): a location other than 0x48 and 0x49 is read as it stands. -/
def execInterruptFlagsRead (addr : Byte) (s : State) : Answer := .next (s.readLocation addr)

/-- INTERRUPT_ENABLES_WRITE (R186). -/
def execInterruptEnablesWrite (addr value : Byte) (s : State) : Answer := .next (s.writeLocation addr value)

/-- LANE_KIND_SET_READ (R159, R186). -/
def execLaneKindSetRead (addr : Byte) (s : State) : Answer := .next (s.readLocation addr)

/-- DIRECTORY_SELECTION (R187). -/
def execDirectorySelection (index : Byte) (s : State) : Answer := .next (s.selectDirectory index)

/-- CLAIMS_SELECTION (R187). -/
def execClaimsSelection (addr value : Byte) (s : State) : Answer := .next (s.writeLocation addr value)

/-- QUEUE_SELECTION (R187). -/
def execQueueSelection (position : Byte) (s : State) : Answer := .next (s.selectQueue position)

/-- COUNTER_SELECTION (R187). -/
def execCounterSelection (number : Byte) (s : State) : Answer := .next (s.selectCounter number)

/-- LANE_COUNT_SELECTION (R187). -/
def execLaneCountSelection (selection : Byte) (s : State) : Answer := .next (s.selectLaneCount selection)

/-- BODY_DATA_WRITE (R188, R189). -/
def execBodyDataWrite (value : Byte) (s : State) : Answer := .next (s.mapMailbox (·.store value))

/-- BODY_DATA_READ (R188, R189). -/
def execBodyDataRead (s : State) : Answer := .next s.readBody

/-- SUBMIT (R189, R190): a write of any value submits. -/
def execSubmit (_value : Byte) (s : State) : Answer := .next s.submitMailbox

/-- REGISTER_WRITE (R182, R183). -/
def execRegisterWrite (addr value : Byte) (s : State) : Answer := .next (s.writeLocation addr value)

end Sys2Proof.Machine
end

