-- ==== Sys2Proof/Machine/Reset.lean ====
section
/-! DEFINITION. Meanings of the resets and of the end of the configuration window: POWER_ON_RESET, PIN_RESET,
CONFIG_WINDOW_EXPIRY. -/

namespace Sys2Proof.Machine

/-- POWER_ON_RESET (R180): every block at its reset value, the Stop Record empty (R126). -/
def execPowerOnReset (s : State) : Answer := .next (s.resetWith none)

/-- PIN_RESET (R180): as a power-on reset, but the Stop Record is kept (R126). -/
def execPinReset (s : State) : Answer := .next (s.resetWith s.stop.record)

/-- CONFIG_WINDOW_EXPIRY (R170): 15,000 ms after the reset, in CONFIG. -/
def execConfigWindowExpiry (s : State) : Answer :=
  if s.stop.mode = .config then .next (s.advanceTo configWindowUs).endConfigWindow else .next s

end Sys2Proof.Machine
end

