-- ==== Sys2Proof/Machine/Dispatch.lean ====
section
/-! DEFINITION. The meaning of every command: one arm for each row of spec/opcode_table.json, in the table's order. -/

namespace Sys2Proof.Machine

/-- The effect of a command on everything but the queue of waiting commands. -/
def exec (i : Instr) (s : State) : Host.Outcome State Fault Refusal :=
  match i with
  | .powerOnReset => Sys2Proof.Machine.execPowerOnReset s
  | .pinReset => Sys2Proof.Machine.execPinReset s
  | .configWindowExpiry => Sys2Proof.Machine.execConfigWindowExpiry s
  | .close => Sys2Proof.Machine.execClose s
  | .parkRequest => Sys2Proof.Machine.execParkRequest s
  | .unpark => Sys2Proof.Machine.execUnpark s
  | .ackStopRecord => Sys2Proof.Machine.execAckStopRecord s
  | .clearCounters => Sys2Proof.Machine.execClearCounters s
  | .recordWrite addr value => Sys2Proof.Machine.execRecordWrite addr value s
  | .interruptFlagsRead addr => Sys2Proof.Machine.execInterruptFlagsRead addr s
  | .interruptEnablesWrite addr value => Sys2Proof.Machine.execInterruptEnablesWrite addr value s
  | .laneKindSetRead addr => Sys2Proof.Machine.execLaneKindSetRead addr s
  | .directorySelection index => Sys2Proof.Machine.execDirectorySelection index s
  | .claimsSelection addr value => Sys2Proof.Machine.execClaimsSelection addr value s
  | .queueSelection position => Sys2Proof.Machine.execQueueSelection position s
  | .counterSelection number => Sys2Proof.Machine.execCounterSelection number s
  | .laneCountSelection selection => Sys2Proof.Machine.execLaneCountSelection selection s
  | .bodyDataWrite value => Sys2Proof.Machine.execBodyDataWrite value s
  | .bodyDataRead => Sys2Proof.Machine.execBodyDataRead s
  | .submit value => Sys2Proof.Machine.execSubmit value s
  | .registerWrite addr value => Sys2Proof.Machine.execRegisterWrite addr value s
  | .linkCycle => Sys2Proof.Machine.execLinkCycle s
  | .feedback message => Sys2Proof.Machine.execFeedback message s
  | .feedbackMissing => Sys2Proof.Machine.execFeedbackMissing s
  | .loopInputChange closed => Sys2Proof.Machine.execLoopInputChange closed s
  | .loopOpening => Sys2Proof.Machine.execLoopOpening s
  | .loopClosing => Sys2Proof.Machine.execLoopClosing s
  | .localStopInputChange asserted => Sys2Proof.Machine.execLocalStopInputChange asserted s
  | .localStop => Sys2Proof.Machine.execLocalStop s
  | .localStopRelease => Sys2Proof.Machine.execLocalStopRelease s
  | .slippingBrake => Sys2Proof.Machine.execSlippingBrake s
  | .delayExpiry => Sys2Proof.Machine.execDelayExpiry s
  | .waitExpired => Sys2Proof.Machine.execWaitExpired s
  | .brakeTimeLimit => Sys2Proof.Machine.execBrakeTimeLimit s
  | .standstill => Sys2Proof.Machine.execStandstill s
  | .standstillTimeout => Sys2Proof.Machine.execStandstillTimeout s
  | .tripRestTimeout => Sys2Proof.Machine.execTripRestTimeout s
  | .restateWindowExpiry => Sys2Proof.Machine.execRestateWindowExpiry s
  | .silence station => Sys2Proof.Machine.execSilence station s
  | .reportPeriod => Sys2Proof.Machine.execReportPeriod s
  | .busIdle => Sys2Proof.Machine.execBusIdle s
  | .contestLost => Sys2Proof.Machine.execContestLost s
  | .contestWon => Sys2Proof.Machine.execContestWon s
  | .collision => Sys2Proof.Machine.execCollision s
  | .frameSent => Sys2Proof.Machine.execFrameSent s
  | .echoLost => Sys2Proof.Machine.execEchoLost s
  | .leadEstablished lane => Sys2Proof.Machine.execLeadEstablished lane s
  | .babble lane bits => Sys2Proof.Machine.execBabble lane bits s
  | .laneIdle lane bits => Sys2Proof.Machine.execLaneIdle lane bits s
  | .receptionEnd lane bits => Sys2Proof.Machine.execReceptionEnd lane bits s
  | .skewWindowExpiry => Sys2Proof.Machine.execSkewWindowExpiry s
  | .tailExpiry => Sys2Proof.Machine.execTailExpiry s
  | .halt source rank body => Sys2Proof.Machine.execHalt source rank body s
  | .stop source rank body => Sys2Proof.Machine.execStop source rank body s
  | .clear source rank body => Sys2Proof.Machine.execClear source rank body s
  | .announce source rank body => Sys2Proof.Machine.execAnnounce source rank body s
  | .restateRequest source rank body => Sys2Proof.Machine.execRestateRequest source rank body s
  | .restate source rank body => Sys2Proof.Machine.execRestate source rank body s
  | .claim source rank body => Sys2Proof.Machine.execClaim source rank body s
  | .trim source rank body => Sys2Proof.Machine.execTrim source rank body s
  | .release source rank body => Sys2Proof.Machine.execRelease source rank body s
  | .withdraw source rank body => Sys2Proof.Machine.execWithdraw source rank body s
  | .status source rank body => Sys2Proof.Machine.execStatus source rank body s
  | .load source rank body => Sys2Proof.Machine.execLoad source rank body s
  | .go source rank body => Sys2Proof.Machine.execGo source rank body s
  | .resume source rank body => Sys2Proof.Machine.execResume source rank body s
  | .cancel source rank body => Sys2Proof.Machine.execCancel source rank body s
  | .laneActive lane => Sys2Proof.Machine.execLaneActive lane s

end Sys2Proof.Machine
end

