-- ==== Sys2Proof/Machine/Schedule.lean ====
section
/-! DEFINITION. What the station does of itself when no command waits (assumption log 1 and 3): the accepted frame at the
head of the decoder's inbox, then the first event that is due, else 1 µs passes. -/

namespace Sys2Proof.Machine

/-- The command that takes an accepted frame. -/
def AcceptedFrame.command (f : AcceptedFrame) : Instr :=
  match f.kind with
  | .halt => .halt f.source f.rank f.body
  | .stop => .stop f.source f.rank f.body
  | .clear => .clear f.source f.rank f.body
  | .announce => .announce f.source f.rank f.body
  | .restateRequest => .restateRequest f.source f.rank f.body
  | .restate => .restate f.source f.rank f.body
  | .claim => .claim f.source f.rank f.body
  | .trim => .trim f.source f.rank f.body
  | .release => .release f.source f.rank f.body
  | .withdraw => .withdraw f.source f.rank f.body
  | .status => .status f.source f.rank f.body
  | .load => .load f.source f.rank f.body
  | .go => .go f.source f.rank f.body
  | .resume => .resume f.source f.rank f.body
  | .cancel => .cancel f.source f.rank f.body

/-- The first entry whose age has reached the silence limit (R53). -/
def State.silentEntry (s : State) : Option Entry := s.dir.entries.find? fun e => s.isDue (s.silenceDue e)

/-- The timer events with the moment each is due. SLIPPING_BRAKE and STANDSTILL are completed by a feedback (R100, R132),
BABBLE and the rest of the lane events by the bus, so they stand in no list. -/
def State.timers (s : State) : List (Option Nat × Instr) :=
  [(if s.stop.mode = .config then some configWindowUs else none, .configWindowExpiry),
    (if s.drive.linkOn then some s.drive.nextLink else none, .linkCycle),
    (s.missingDue, .feedbackMissing),
    (if s.drive.loopRaw then none else s.loopDue, .loopOpening),
    (if s.drive.loopRaw then s.loopDue else none, .loopClosing),
    (if s.drive.stopRaw then s.stopInputDue else none, .localStop),
    (if s.drive.stopRaw then none else s.stopInputDue, .localStopRelease),
    (s.delayDue, .delayExpiry),
    (s.waitDue, .waitExpired),
    (s.brakeDue, .brakeTimeLimit),
    (s.standstillLimit, .standstillTimeout),
    (s.tripRestDue, .tripRestTimeout),
    (s.windowDue, .restateWindowExpiry),
    (s.dir.reportDueAt, .reportPeriod),
    (s.echoDue.map Prod.fst, .echoLost),
    (s.skewDue.map Prod.fst, .skewWindowExpiry),
    (s.tailDue, .tailExpiry)]

/-- The command the station gives itself now, if one is due; no row takes a misfiled frame. -/
def State.dueCommand (s : State) : Option Instr :=
  match s.dec.inbox with
  | some f :: _ => some f.command
  | none :: _ => none
  | [] =>
    match s.silentEntry with
    | some e => some (.silence (BitVec.ofNat 7 e.number))
    | none => (s.timers.find? fun x => s.isDue x.1).map Prod.snd

end Sys2Proof.Machine
end

