-- ==== Sys2Proof/Machine/Idle.lean ====
section
/-! DEFINITION. The step of a station for which no command waits (assumption log 1). -/

namespace Sys2Proof.Machine

/-- With no command waiting: misfiled frames that are the next to take, the event that is due, or 1 µs. -/
def idleStep (s : State) : Answer :=
  if s.misfiledNext then .next s.discardMisfiled
  else
    match s.dueCommand with
    | some c => exec c s
    | none => .next (s.advanceTo (s.now + 1))

end Sys2Proof.Machine
end

