-- ==== Sys2Proof/Machine/Step.lean ====
section
/-! DEFINITION. One step of the station: the command at the front of the queue, or with an empty queue the station's own
clock. -/

namespace Sys2Proof.Machine

/-- One step. -/
def step (s : State) : Host.Outcome State Fault Refusal :=
  match s.pending with
  | c :: rest => exec c { s with pending := rest }
  | [] => idleStep s

/-- The state with the command a table word spells at the front of its queue. No word spells one, since the table gives
no row bits. -/
def State.withFetchWord (s : State) (nbits w : Nat) : State :=
  match decodeTableWord nbits w with
  | some c => { s with pending := c :: s.pending }
  | none => s

end Sys2Proof.Machine
end

