-- ==== Sys2Proof/WellFormed.lean ====
section
/-! DEFINITION. When a command is one its row can stand for: addresses among the row's locations (R182, R183, R186 to
R188), a frame's source and body length as an accepted, correctly filed frame has them (R136, R137), a feedback message
of bytes at all. -/

namespace Sys2Proof

/-- The locations that have a row of their own, so that REGISTER_WRITE is a write to "any other location". -/
def ownRowLocation (addr : Byte) : Bool :=
  addr.toNat < 0x30 || [0x4A, 0x4B, 0x64, 0x69, 0x80, 0xA0, 0xA1, 0xC0, 0xE3, 0xE4].contains addr.toNat

/-- The five command codes that have a row of their own (R184). -/
def ownRowCommand (addr value : Byte) : Bool :=
  addr.toNat == 0x40 && 1 ≤ value.toNat && value.toNat ≤ 5

/-- The source field of a frame that is not misfiled (R137) and a body the length field allows (R136). -/
def frameOperands (source : BitVec 7) (body : List Byte) : Bool :=
  1 ≤ source.toNat && source.toNat ≤ 99 && body.length ≤ 96

/-- The command's operands are among those its row has. -/
def Instr.wellFormed : Instr → Bool
  | .powerOnReset | .pinReset | .configWindowExpiry | .close | .parkRequest | .unpark | .ackStopRecord
  | .clearCounters => true
  | .recordWrite addr _ => addr.toNat < 0x30
  | .interruptFlagsRead addr => addr.toNat == 0x48 || addr.toNat == 0x49
  | .interruptEnablesWrite addr _ => addr.toNat == 0x4A || addr.toNat == 0x4B
  | .laneKindSetRead addr => 0x60 ≤ addr.toNat && addr.toNat ≤ 0x63
  | .directorySelection _ => true
  | .claimsSelection addr _ => addr.toNat == 0xA0 || addr.toNat == 0xA1
  | .queueSelection _ | .counterSelection _ | .laneCountSelection _ | .bodyDataWrite _ | .bodyDataRead
  | .submit _ => true
  | .registerWrite addr value => !ownRowLocation addr && !ownRowCommand addr value
  | .linkCycle | .feedback _ | .feedbackMissing | .loopInputChange _ | .loopOpening | .loopClosing
  | .localStopInputChange _ | .localStop | .localStopRelease | .slippingBrake | .delayExpiry | .waitExpired
  | .brakeTimeLimit | .standstill | .standstillTimeout | .tripRestTimeout | .restateWindowExpiry => true
  | .silence station => 1 ≤ station.toNat && station.toNat ≤ 99
  | .reportPeriod | .busIdle | .contestLost | .contestWon | .collision | .frameSent | .echoLost => true
  | .leadEstablished _ | .babble _ _ | .laneIdle _ _ | .receptionEnd _ _ | .skewWindowExpiry | .tailExpiry => true
  | .halt source _ body | .stop source _ body | .clear source _ body | .announce source _ body
  | .restateRequest source _ body | .restate source _ body | .claim source _ body | .trim source _ body
  | .release source _ body | .withdraw source _ body | .status source _ body | .load source _ body
  | .go source _ body | .resume source _ body | .cancel source _ body => frameOperands source body
  | .laneActive _ => true

end Sys2Proof
end

