-- ==== Sys2Proof/Safety.lean ====
section
/-! DEFINITION. What holds of the station in every state a run can reach, as decidable predicates of a state, and the words
the statements use. Each invariant says what the spec says of the state it names. -/

/-- The command is a reset. -/
def Sys2Proof.Instr.isReset : Sys2Proof.Instr → Bool
  | .powerOnReset | .pinReset => true
  | _ => false

namespace Sys2Proof.Machine

/-! ### Invariants -/

/-- In CONFIG and INERT every block that acts on the bus stands at its reset value and no drive output is requested (R17, R45,
R64, R84, R131, R141, R142, R172). -/
def State.quiet (s : State) : Bool :=
  s.stop.mode.onBus ||
    (s.claims == ClaimsEngine.reset && s.dir == PeerDirectory.reset && s.cue == CueEngine.reset
      && s.exe == Executor.reset && s.dec == Decoder.reset && s.tx == Transmitter.reset
      && !s.stop.duplicate && s.stop.joinStage == .none && !s.stop.fullColumn
      && !s.drive.torqueReq && !s.drive.brakeReq)

/-- Indices rise strictly from `n` on and stay below 128 (R16). -/
def Table.indicesFrom : (n : Nat) → Table → Bool
  | _, [] => true
  | n, (i, _) :: rest => n ≤ i && i < 128 && Table.indicesFrom (i + 1) rest

/-- No owner has two STANDING claims or two SWEEP claims (R16). -/
def Table.oneOfAKind : Table → Bool
  | [] => true
  | (_, c) :: rest => rest.all (fun (_, d) => !(c.owner == d.owner && c.isSweep == d.isSweep)) && Table.oneOfAKind rest

/-- The Claims Table as R16 has it. -/
def State.tableOk (s : State) : Bool := Table.indicesFrom 0 s.claims.table && Table.oneOfAKind s.claims.table

/-- One entry for a station, and at most 71 for peers (R44). -/
def State.directoryOk (s : State) : Bool :=
  noneTwice (s.dir.entries.map (·.number)) && (s.dir.entries.filter (·.number != s.number)).length ≤ 71

/-- A class queue holds no more than its places, and frames wait only when it is full (R142). -/
def TxQueue.ok (q : TxQueue) (capacity : Nat) : Bool :=
  q.places.length ≤ capacity && (q.waiting.isEmpty || q.places.length == capacity)

/-- The four class queues (R142) and the Segment Queue (R60). -/
def State.queuesOk (s : State) : Bool :=
  classOrder.all (fun c => (s.tx.queue c).ok c.capacity) && s.cue.queue.length ≤ 4

/-- The frames in flight in a class queue, waiting ones included. -/
def State.flying (s : State) (c : FrameClass) : Nat := ((s.tx.queue c).frames.filter (·.inFlight)).length

/-- The frame at the head of a class queue is in flight. -/
def State.headFlies (s : State) (c : FrameClass) : Bool :=
  match (s.tx.queue c).places with
  | f :: _ => f.inFlight
  | [] => false

/-- The Transmitter sends one frame at a time (R146, R147): while it sends or awaits an echo that frame is the head of its
class and the only one in flight; else none is, and a contest has an unsent head. -/
def State.oneInFlight (s : State) : Bool :=
  match s.tx.state with
  | .idle => classOrder.all fun c => s.flying c == 0
  | .contest c => classOrder.all (fun d => s.flying d == 0) && !(s.tx.queue c).places.isEmpty
  | .sending c | .echoWait c =>
    s.headFlies c && classOrder.all fun d => s.flying d == (if d = c then 1 else 0)

/-- Motion states in which no setpoint is held (R117, R128). -/
def Motion.restful : Motion → Bool
  | .idle | .delaying | .gated | .claiming => true
  | .unbraking | .moving | .stopping | .settling | .paused => false

/-- Outside IDLE the executor runs the segment at the head of the Segment Queue, which is marked started (R71, R84); before
UNBRAKING it holds no setpoint (R117, R128). -/
def State.executorOk (s : State) : Bool :=
  (s.exe.motion == .idle ||
      match s.cue.queue with
      | e :: _ => e.started && s.exe.segment == some e.segment
      | [] => false)
    && (!s.exe.motion.restful || s.exe.setpoint.isNone)

/-- Torque and brake release are requested only for a move; in SETTLING torque stays on only while the brake is being applied, and
never after a trip; the brake's release is not requested while it is being applied, and no frame's echo is awaited while torque
is on (R94, R101, R113, R118, R131). -/
def State.driveOk (s : State) : Bool :=
  (!s.drive.torqueReq ||
      ((s.exe.motion == .unbraking || s.exe.motion == .moving || s.exe.motion == .stopping
          || (s.exe.motion == .settling && s.exe.stage == .applying))
        && s.exe.awaiting == .nothing))
    && (!s.drive.brakeReq ||
      (s.exe.motion == .unbraking || s.exe.motion == .moving || (s.exe.motion == .stopping && s.exe.stage == .running)))
    && (!(s.exe.motion == .unbraking || s.exe.motion == .moving || s.exe.motion == .stopping || s.exe.motion == .paused)
      || s.exe.awaiting == .nothing)

/-- The bits of 0x49 that carry no flag are zero (R185). -/
def State.flagsOk (s : State) : Bool := s.port.flags &&& 0xF800 == 0

/-! ### Words of the statements -/

/-- A frame of this source is a peer's frame that the station takes next: the mode is on the bus, the source is a station number and
not the own one, and no misfiled frame is ahead of it (R140; FramesNotTaken says what those do). -/
def State.hears (s : State) (source : BitVec 7) : Bool :=
  s.stop.mode.onBus && !s.misfiledNext && stationInRange source.toNat && source.toNat != s.number

/-- The mode is one in which a stop request opens an episode (R107). -/
def Mode.running : Mode → Bool
  | .joining | .active | .halted => true
  | .config | .inert | .stopped => false

/-- The Stop Record after a stop request taken at `s` (R125): a new episode's record, or one further cause. -/
def State.recordAfter (s : State) (cause : StopCause) (source : Option Nat) : Option StopRecord :=
  if s.stop.mode = .stopped then s.stop.record.map fun r => { r with further := min 65535 (r.further + 1) }
  else some (s.episode cause source)

/-- What the window's end with a valid record has made of `s` (R170, R173; R128 for a DESK, R133 for an AXIS with its loop
open). -/
def State.joinsAs (s t : State) : Prop :=
  t.cfg = { s.cfg with fault := none } ∧ t.stop.joinStage = .announcing ∧ t.claims.view = .suspect ∧ t.claims.table = []
  ∧ t.dir = s.dir ∧ t.cue = s.cue ∧ t.exe = s.exe ∧ t.pending = s.pending ∧ t.free = s.free
  ∧ t.tx.space.places.head? = some ⟨.announce, .joining, none, false⟩
  ∧ t.port.flags &&& 0x0011 = 0x0011 ∧ t.drive.torqueReq = false ∧ t.drive.brakeReq = false
  ∧ (t.laneA.health = .off ↔ s.cfg.laneMode = .bOnly ∨ s.laneA.health = .off)
  ∧ (t.laneB.health = .off ↔ s.cfg.laneMode = .aOnly ∨ s.laneB.health = .off)
  ∧ (s.cfg.role = .desk → t.stop.mode = .joining ∧ t.stop.record = none ∧ t.drive.linkOn = false)
  ∧ (s.cfg.role = .axis → t.drive.linkOn = s.drive.linkOn ∧
      if s.drive.loopClosed then t.stop.mode = .joining ∧ t.stop.record = s.stop.record
      else t.stop.mode = .stopped ∧ t.stop.record.map (·.cause) = some .loop)

/-- The executor's RELEASE has just been queued, last in the SPACE queue, with this vertical band, and its echo is awaited
(R101, R115). -/
def State.owesRelease (t : State) (band : Band) : Prop :=
  t.exe.awaiting = .release
  ∧ t.tx.space.frames.getLast? = some ⟨.release, .executor, some (Content.release t.ownDepth band).encode, false⟩
  ∧ ∀ f ∈ t.tx.space.frames, f.inFlight = false → f.kind ≠ .trim

/-- The CLAIMING row of a STOP, a CANCEL and an immediate stop (6.5, R92, R124), with the head frozen: a claim given up before queues
nothing more, an unsent CLAIM leaves the queue and ends it, and a sent one is followed by a WITHDRAW whose echo is awaited. -/
def State.givesUpClaim (a t : State) : Prop :=
  (a.exe.awaiting ≠ .nothing → t.exe = { a.exe with waitSince := none } ∧ t.tx = a.tx)
  ∧ (a.exe.awaiting = .nothing →
    (a.stop.duplicate = true → t.exe = a.exe.idled ∧ t.tx = a.tx)
    ∧ (a.stop.duplicate = false → a.hasUnsent .space (·.kind == .claim) = true →
        t.exe = a.exe.idled ∧ t.hasUnsent .space (·.kind == .claim) = false)
    ∧ (a.stop.duplicate = false → a.hasUnsent .space (·.kind == .claim) = false →
        t.exe = { a.exe with waitSince := none, awaiting := .withdraw }
        ∧ t.tx.space.frames = a.tx.space.frames ++ [⟨.withdraw, .executor, some [], false⟩]))

/-- What a stop that enters STOPPED, or finds the queue frozen there, leaves of a started head: it is frozen, a freeze keeping its cause,
and a segment that has not moved is given up (R73, R74, R110, 6.5). -/
def State.freezesHead (a t : State) : Prop :=
  a.stop.mode ≠ .stopped ∨ a.cue.freeze ≠ .none →
    ∀ e rest, a.cue.queue = e :: rest → e.started = true → e.cancelling = false →
      t.cue = { a.cue with freeze := if a.cue.freeze = .none then .stop else a.cue.freeze }
      ∧ (a.exe.motion = .delaying ∨ a.exe.motion = .gated → t.exe = a.exe.idled)
      ∧ (a.stop.mode.onBus = true → a.exe.motion = .claiming → a.givesUpClaim t)

/-- The rows of a STOP and a CANCEL for a load under way or braked (6.5, R117, R119, R124). -/
def State.bringsToRest (s t : State) : Prop :=
  let purpose : Purpose := if s.stop.duplicate = true ∨ s.exe.purpose = some .hold then .hold else .release
  (s.exe.motion = .unbraking → t.exe.motion = .settling ∧ t.exe.stage = .applying ∧ t.exe.usePreMove = true
      ∧ t.exe.purpose = some purpose ∧ t.exe.preMove = s.exe.preMove ∧ t.drive = { s.drive with brakeReq := false })
  ∧ (s.exe.motion = .moving → t.exe.motion = .stopping ∧ t.exe.purpose = some purpose ∧ t.drive = s.drive
      ∧ ∀ g p j, s.exe.segment = some g → s.exe.setpoint = some p → s.exe.trajectory = some j →
        t.exe.trajectory = some (.deceleration p g.target (j.exactSpeed s.now) s.cfg.stopDecel s.now))
  ∧ (s.exe.motion = .stopping → s.exe.stage ≠ .applying → t.exe = { s.exe with purpose := some purpose } ∧ t.drive = s.drive)
  ∧ (s.exe.motion = .stopping → s.exe.stage = .applying → t.exe = { s.exe with
        motion := .settling, purpose := some purpose, brakeSince := some s.now, standSince := none, restSince := none }
      ∧ t.drive = { s.drive with brakeReq := false })
  ∧ (s.exe.motion = .settling → s.stop.duplicate = false → t.exe = s.exe ∧ t.drive = s.drive)
  ∧ (s.exe.motion = .settling → s.stop.duplicate = true →
      ¬(s.exe.stage = .tripped ∧ s.exe.awaiting = .nothing ∧ s.exe.tripOpen = false) →
      t.exe = { s.exe with purpose := some .hold } ∧ t.drive = s.drive)
  ∧ (s.exe.motion = .paused → s.stop.duplicate = false → t.exe.motion = .settling ∧ t.owesRelease s.standingBand)

/-- What an immediate stop requested at `a` leaves at an AXIS (R113, R115, R125, 6.5): STOPPED, the record, both drive requests off at
once, a started head frozen, and the executor's column: a segment that has not moved given up, SETTLING after a trip where the brake had
not been reported APPLIED, and the RELEASE queued at once where it had been. -/
def State.tripsTo (a t : State) (cause : StopCause) : Prop :=
  t.stop = { a.stop with mode := .stopped, record := a.recordAfter cause none }
  ∧ t.drive = { a.drive with torqueReq := false, brakeReq := false }
  ∧ (a.stop.mode ≠ .stopped → t.port.flags &&& 0x0003 = 0x0003)
  ∧ a.freezesHead t
  ∧ (a.exe.motion = .idle → t.exe = a.exe ∧ ((∀ e rest, a.cue.queue = e :: rest → e.started = false) → t.cue = a.cue))
  ∧ (a.exe.motion = .unbraking ∨ a.exe.motion = .moving ∨ a.exe.motion = .stopping
      ∨ (a.exe.motion = .settling ∧ a.exe.awaiting = .nothing ∧ a.exe.stage ≠ .tripped) →
      t.exe.motion = .settling ∧ t.exe.stage = .tripped ∧ t.exe.restSince = some a.now ∧ t.exe.setpoint = a.exe.setpoint)
  ∧ (a.stop.duplicate = false → a.stop.mode.onBus = true →
      (a.exe.motion = .paused
        ∨ (a.exe.motion = .settling ∧ a.exe.awaiting = .nothing ∧ a.exe.stage = .tripped ∧ a.exe.tripOpen = false)) →
      t.exe.motion = .settling ∧ t.owesRelease a.tripBand)
  ∧ t.now = a.now ∧ t.free = a.free ∧ t.cfg = a.cfg ∧ t.claims = a.claims ∧ t.dir = a.dir ∧ t.dec = a.dec
  ∧ t.laneA = a.laneA ∧ t.laneB = a.laneB ∧ t.merger = a.merger ∧ t.pending = a.pending

/-! ### The Segment Queue -/

/-- The segment `y` has become the head and is started, `rest` behind it (R61, R71): a VOID one freezes the queue and leaves the executor as
`idle`, any other is handed over. -/
def State.headStarts (t : State) (y : QueueEntry) (rest : List QueueEntry) (idle : Executor) : Prop :=
  t.cue.queue = { y with started := true } :: rest ∧ t.flagSet .queueChange = true
  ∧ (y.segment.isVoid = true → t.cue.freeze = .voidTarget ∧ t.exe = idle)
  ∧ (y.segment.isVoid = false → t.cue.freeze = .none ∧ t.exe.segment = some y.segment
      ∧ (y.segment.delay.isSome = true → t.exe.motion = .delaying)
      ∧ (y.segment.delay = none → t.exe.motion = .gated ∨ t.exe.motion = .claiming))

/-- The head cue has left the queue of `s`, `left` remains, and `moved` says whether a cancelled one had moved (R72, R75, R77): the freeze
of what remains is decided, then a pending park request takes effect (R81), then an armed new head starts. -/
def State.headLeaves (s t : State) (left : List QueueEntry) (moved : Bool) (idle : Executor) : Prop :=
  let parks : Prop := s.cue.parked = .pending ∧ ∀ x ∈ left, x.started = false
  let starts : Prop := s.stop.mode = .active ∨ s.stop.mode = .halted
  let goesOn (kept : List QueueEntry) : Prop :=
    (¬starts ∨ (∀ y ys, kept = y :: ys → y.armed = false) →
      t.cue.queue = kept ∧ t.cue.freeze = .none ∧ t.exe = idle ∧ t.flagSet .queueChange = true)
    ∧ (∀ y ys, kept = y :: ys → y.armed = true → starts → t.headStarts y ys idle)
  (moved = true → left ≠ [] → t.cue.queue = left ∧ t.cue.freeze = .cancelStopped ∧ t.cue.parked = s.cue.parked ∧ t.exe = idle
    ∧ t.flagSet .queueChange = true)
  ∧ (moved = false ∨ left = [] →
    (¬parks → t.cue.parked = s.cue.parked ∧ goesOn left)
    ∧ (parks → t.cue.parked = .parked ∧ goesOn (left.filter fun x => 4 ≤ x.specificity)
        ∧ t.counter .parkRemoved = saturate16 (s.counter .parkRemoved) (left.filter fun x => x.specificity < 4).length))

/-- The executor of `s` has finished with the head segment `e`, `rest` behind it (R72, R76, R77): a cancelling cue leaves, a frozen head
stays, and a completed segment leaves the next one of its cue to start, or the queue to go on. -/
def State.segmentDone (s t : State) (e : QueueEntry) (rest : List QueueEntry) : Prop :=
  let idle := s.exe.idled
  (e.cancelling = true → s.headLeaves t ((e :: rest).filter fun x => x.segment.cue ≠ e.segment.cue) s.cue.cancelMoved idle)
  ∧ (e.cancelling = false → s.cue.freeze ≠ .none → t.cue = s.cue ∧ t.exe = idle)
  ∧ (e.cancelling = false → s.cue.freeze = .none →
    (∀ y ys, rest = y :: ys → y.segment.cue = e.segment.cue → t.headStarts y ys idle ∧ t.cue.parked = s.cue.parked)
    ∧ ((∀ y ys, rest = y :: ys → y.segment.cue ≠ e.segment.cue) → s.headLeaves t rest false idle))

/-- The segment `f` is stored for a carried segment `g` of the cue, fitted to the station's record (R60, R61). -/
def State.fitsTo (s : State) (cue : Nat) (g : CarriedSegment) (f : Segment) : Prop :=
  let fitted (lo hi v w : Nat) : Prop := (v < lo → w = lo) ∧ (lo ≤ v → v ≤ hi → w = v) ∧ (lo ≤ v → hi < v → w = max lo hi)
  f.cue = cue ∧ f.index = g.index ∧ f.target = g.target ∧ f.precedence = g.precedence ∧ f.trim = g.trim
  ∧ fitted 10 s.cfg.maxSpeed g.speed f.speed ∧ fitted 100 3000 g.accel f.accel ∧ fitted 100 s.cfg.stopDecel g.decel f.decel
  ∧ (g.delay = none ∨ g.delay = some 0 → f.delay = none)
  ∧ (∀ d, g.delay = some d → 1 ≤ d → (d ≤ 60000 → f.delay = some d) ∧ (60000 < d → f.delay = some 60000))
  ∧ (g.gate = none → f.gate = none)
  ∧ (∀ x, g.gate = some x → ∃ y, f.gate = some y ∧ y.peer = x.peer ∧ y.relation = x.relation
      ∧ (x.threshold = none → y.threshold = none)
      ∧ ∀ h, x.threshold = some h → (h ≤ 40000 → y.threshold = some h) ∧ (40000 < h → y.threshold = some 40000))
  ∧ (g.waitLimit = none → f.waitLimit = s.cfg.defaultWait)
  ∧ (∀ w, g.waitLimit = some w → fitted 100 30000 w f.waitLimit)
  ∧ (f.isVoid = true ↔ g.target < s.cfg.softLow ∨ s.cfg.softHigh < g.target)

/-- The frame a SUBMIT offers: the kind, and the first bytes of the buffer (R189). -/
def State.mailboxFrame (s : State) (k : Kind) : TxFrame :=
  ⟨k, .mailbox, some (s.port.mailbox.buffer.toList.take s.port.mailbox.length.toNat), false⟩

/-- The cue number a reservation's refusal records (R67, R141): the CLAIM's or TRIM's, else none. -/
def carriedCueOf : Content → Option Nat
  | .claim _ _ _ cue _ => some cue
  | .trim cue _ _ => some cue
  | _ => none

/-- The read captures of the running transaction hold no byte of this location (R181). -/
def State.uncaptured (s : State) (addr : Byte) : Bool := s.port.captured.all fun (a, _) => a != addr.toNat

end Sys2Proof.Machine
end

