-- ==== Sys2Proof/Certificates/Slice0/Obligations.lean ====
section
/-! DEFINITION. The statements for the provers. -/

open Sys2Proof Sys2Proof.Machine

/-! ### Steps and resets -/

/-- A step takes the command at the front of the queue and runs it on the state with the queue's rest; every command runs to a next state
and leaves the queue alone. With no command waiting the station runs the event that is due, else 1 µs passes and nothing but time changes
(the model's choice, assumption log 1); misfiled frames that the decoder takes next are discarded first (log 4). -/
def Obligations.StepRunsFrontCommand : Prop :=
  (∀ (c : Instr) (s : State),
      (∀ rest : List Instr, step { s with pending := c :: rest } = exec c { s with pending := rest })
      ∧ ∃ t, exec c s = .next t ∧ t.pending = s.pending)
  ∧ (∀ s : State, s.pending = [] →
      (s.misfiledNext = true → step s = .next s.discardMisfiled) ∧
      (∀ c, s.dueCommand = some c → step s = exec c s) ∧
      (s.misfiledNext = false → s.dueCommand = none →
        step s = .next { s with
          now := s.now + 1
          exe := { s.exe with
            delayElapsed := if s.exe.motion = .delaying ∧ s.stop.mode = .active then s.exe.delayElapsed + 1
              else s.exe.delayElapsed } }))

/-- POWER_ON_RESET and PIN_RESET, whatever the state: every block at its reset value, the filtered inputs at the sampled levels; a pin
reset keeps the Stop Record. Then the reset values themselves, field by field. Values the spec leaves open are the model's: the first link
cycle (assumption log 7), SDO (24), the sampled levels (6), an activity timer that does not run (54), no profile start height (62). -/
def Obligations.ResetsRestoreEveryBlock : Prop :=
  (∀ s : State,
    exec .powerOnReset s = .next { State.reset with
      free := s.free, drive := DrivePort.resetWith s.drive.loopRaw s.drive.stopRaw, pending := s.pending }
    ∧ exec .pinReset s = .next { State.reset with
      free := s.free, drive := DrivePort.resetWith s.drive.loopRaw s.drive.stopRaw, pending := s.pending
      stop := { StopController.reset with record := s.stop.record } })
  ∧ (∀ loop stop, DrivePort.resetWith loop stop =
      ⟨none, false, false, false, .off, true, 0, [], loop, loop, none, stop, stop, none⟩)
  ∧
    let r := State.reset
    r.stop.mode = .config ∧ r.stop.record = none ∧ r.stop.duplicate = false ∧ r.stop.joinStage = .none ∧ r.stop.fullColumn = false
    ∧ r.claims.table = [] ∧ r.claims.view = .sound ∧ r.claims.windowSince = none
    ∧ r.dir.entries = [] ∧ r.dir.reportDueAt = none ∧ r.dir.reportDue = false
    ∧ r.cue.queue = [] ∧ r.cue.freeze = .none ∧ r.cue.parked = .notParked
    ∧ r.exe.motion = .idle ∧ r.exe.segment = none ∧ r.exe.setpoint = none ∧ r.exe.trajectory = none ∧ r.exe.gateLatch = false
    ∧ r.exe.raised = ⟨false, false, false, false, false⟩ ∧ r.exe.trimCount = 0 ∧ r.exe.trimReached = 0
    ∧ r.drive.torqueReq = false ∧ r.drive.brakeReq = false ∧ r.drive.latest = none ∧ r.drive.missing = false ∧ r.drive.linkOn = true
    ∧ r.dec.lastCode = .none ∧ r.dec.lastCue = none
    ∧ (∀ c, r.tx.queue c = ⟨[], []⟩) ∧ r.tx.state = .idle ∧ r.tx.expected = none ∧ r.tx.deferral = 0
    ∧ (∀ l, (r.lane l).recv = .idle ∧ (r.lane l).buffer = none ∧ (r.lane l).activeSince = none ∧ (r.lane l).health = .good
        ∧ (r.lane l).babble = false ∧ (r.lane l).kindSet = 0
        ∧ (r.lane l).badRun = 0 ∧ (r.lane l).cleanRun = 0 ∧ ∀ k : Fin 10, (r.lane l).counts[k] = 0)
    ∧ r.merger.collecting = none ∧ r.merger.tail = none ∧ r.merger.snapshot = none
    ∧ (∀ c, r.counter c = 0)
    ∧ r.port.flags = 0 ∧ r.port.enables = 0 ∧ r.port.mailbox.busy = false ∧ r.port.mailbox.outcome = .none
    ∧ r.cfg.fault = none ∧ r.cfg.brakeLimit = 300 ∧ r.cfg.ownRank = 3 ∧ r.cfg.cueRankLimit = 3 ∧ r.cfg.clearRankLimit = 1
    ∧ r.cfg.defaultWait = 5000 ∧ r.cfg.reportPeriod = 20 ∧ r.cfg.silenceLimit = 200 ∧ r.cfg.restateWindow = 250
    ∧ r.cfg.laneMode = .both ∧ r.cfg.leadMode = .strict

/-! ### The configuration window -/

/-- The end of the configuration window by CLOSE or by its expiry: INERT with the fault code where the record fails a check, JOINING with
the ANNOUNCE queued and the view SUSPECT where it fails none, an AXIS with its loop open taking the opening at once; outside CONFIG
neither has an effect. A DESK joins with an empty Stop Record; that it is emptied at this moment is the model's choice (assumption log
40), as is the clock moved to the due moment (log 2). -/
def Obligations.ConfigWindowEnds : Prop :=
  (∀ s : State,
      (∀ why, s.stop.mode = .config → s.cfg.validate = some why →
        exec .close s = .next { s with
          cfg := { s.cfg with fault := some why }
          stop := { s.stop with mode := .inert }
          port := { s.port with flags := s.port.flags ||| 0x0021 } }
        ∧ exec .configWindowExpiry s = .next { s with
          now := max s.now 15000000
          cfg := { s.cfg with fault := some why }
          stop := { s.stop with mode := .inert }
          port := { s.port with flags := s.port.flags ||| 0x0021 } })
      ∧ (s.stop.mode ≠ .config → exec .close s = .next s ∧ exec .configWindowExpiry s = .next s))
  ∧ (∀ s : State, s.quiet = true → s.stop.mode = .config → s.cfg.validate = none →
      (∃ t, exec .close s = .next t ∧ t.now = s.now ∧ s.joinsAs t)
      ∧ ∃ t, exec .configWindowExpiry s = .next t ∧ t.now = max s.now 15000000 ∧ s.joinsAs t)

/-- The fault code names the first check that fails, in the order of the fields, with its reason: UNWRITTEN before RANGE before RELATION.
A record is valid exactly when every field that its role has checked is written where it has no default, in its range, and keeps its
relation. -/
def Obligations.RecordValidation : Prop :=
  ∀ c : ConfigStore,
    let lacks (pos : Nat) : Prop := pos ∈ [1, 2, 3, 6, 8, 9, 10, 11, 12, 13] ∧ c.written.getLsbD (pos - 1) = false
    let inside (lo v hi : Nat) : Prop := lo ≤ v ∧ v ≤ hi
    let ranges (pos : Nat) : Prop := match pos with
      | 1 => inside 1 c.number 99 | 2 => inside 0 c.roleByte 1 | 3 => inside 0 c.slot 127 | 4 => inside 0 c.front 15
      | 5 => inside 0 c.rear 15 | 6 => inside 0 c.drop 25000 | 7 => inside 0 c.top 5000 | 8 => inside 0 c.margin 2000
      | 9 => inside 0 c.softLow 40000 | 10 => inside 0 c.softHigh 40000 | 11 => inside 100 c.maxSpeed 2000
      | 12 => inside 300 c.stopDecel 3000 | 13 => inside 5 c.followLimit 500 | 14 => inside 100 c.brakeLimit 1000
      | 16 => c.companionCount ≤ 8 ∧ ∀ n ∈ c.companions, inside 1 n 99
      | 17 => inside 0 c.ownRank 3 | 18 => inside 0 c.cueRankLimit 3 | 19 => inside 0 c.clearRankLimit 3
      | 20 => inside 100 c.defaultWait 30000 | 21 => inside 10 c.reportPeriod 100 | 22 => inside 50 c.silenceLimit 1000
      | 23 => inside 100 c.restateWindow 1000 | 24 => inside 0 c.laneModeByte 2 | 25 => inside 0 c.leadModeByte 1
      | 26 => c.trimStep = 0 ∨ inside 100 c.trimStep 5000
      | _ => True
    let relates (pos : Nat) : Prop := match pos with
      | 9 => c.drop + c.margin ≤ c.softLow | 10 => c.softLow < c.softHigh
      | 16 => c.companions.Nodup ∧ c.number ∉ c.companions | 22 => 3 * c.reportPeriod ≤ c.silenceLimit
      | _ => True
    (c.validate = none ↔ ∀ p ∈ c.checkedFields, ¬lacks p ∧ ranges p ∧ relates p)
    ∧ (∀ pos, (c.fieldFault pos = some .unwritten ↔ lacks pos)
        ∧ (c.fieldFault pos = some .range ↔ ¬lacks pos ∧ ¬ranges pos)
        ∧ (c.fieldFault pos = some .relation ↔ ¬lacks pos ∧ ranges pos ∧ ¬relates pos))
    ∧ c.checkedFields = (if c.roleByte = 1 then [1, 2, 15, 17, 21, 22, 23, 24, 25]
        else (List.range 27).filter fun pos => pos != 0 && pos != 17)
    ∧ (c.validate = none ↔ ∀ p ∈ c.checkedFields, c.fieldFault p = none)
    ∧ (∀ pos why, c.validate = some (pos, why) ↔
        pos ∈ c.checkedFields ∧ c.fieldFault pos = some why ∧ ∀ p ∈ c.checkedFields, p < pos → c.fieldFault p = none)
    ∧ (c.validate = none → c.role = .axis →
        1 ≤ c.number ∧ c.number ≤ 99 ∧ c.slot ≤ 127 ∧ c.front ≤ 15 ∧ c.rear ≤ 15 ∧ c.drop ≤ 25000 ∧ c.top ≤ 5000
        ∧ c.margin ≤ 2000 ∧ c.softLow ≤ 40000 ∧ c.softHigh ≤ 40000 ∧ c.softLow < c.softHigh ∧ c.drop + c.margin ≤ c.softLow
        ∧ 100 ≤ c.maxSpeed ∧ c.maxSpeed ≤ 2000 ∧ 300 ≤ c.stopDecel ∧ c.stopDecel ≤ 3000
        ∧ 5 ≤ c.followLimit ∧ c.followLimit ≤ 500 ∧ 100 ≤ c.brakeLimit ∧ c.brakeLimit ≤ 1000
        ∧ c.cueRankLimit ≤ 3 ∧ c.clearRankLimit ≤ 3 ∧ 100 ≤ c.defaultWait ∧ c.defaultWait ≤ 30000
        ∧ 10 ≤ c.reportPeriod ∧ c.reportPeriod ≤ 100 ∧ 50 ≤ c.silenceLimit ∧ c.silenceLimit ≤ 1000
        ∧ 3 * c.reportPeriod ≤ c.silenceLimit ∧ 100 ≤ c.restateWindow ∧ c.restateWindow ≤ 1000
        ∧ c.laneModeByte ≤ 2 ∧ c.leadModeByte ≤ 1 ∧ (c.trimStep = 0 ∨ 100 ≤ c.trimStep ∧ c.trimStep ≤ 5000)
        ∧ c.companionCount ≤ 8 ∧ c.companions.length ≤ 8 ∧ c.companions.Nodup ∧ c.number ∉ c.companions
        ∧ ∀ n ∈ c.companions, 1 ≤ n ∧ n ≤ 99)
    ∧ (c.validate = none → c.role = .desk →
        1 ≤ c.number ∧ c.number ≤ 99 ∧ c.ownRank ≤ 3 ∧ 10 ≤ c.reportPeriod ∧ c.reportPeriod ≤ 100
        ∧ 50 ≤ c.silenceLimit ∧ c.silenceLimit ≤ 1000 ∧ 3 * c.reportPeriod ≤ c.silenceLimit
        ∧ 100 ≤ c.restateWindow ∧ c.restateWindow ≤ 1000 ∧ c.laneModeByte ≤ 2 ∧ c.leadModeByte ≤ 1)

/-! ### The controller port -/

/-- ACK STOP RECORD empties the record in any mode and changes nothing else; an emptied record stays empty for the rest of its episode, and
always at a DESK; a power-on reset empties it and a pin reset keeps it. That an empty record reads 0 at every location of 0x50 to 0x5F, the
height included, is the model's choice (assumption log 44: R126 has its fields zero or absent). -/
def Obligations.AckEmptiesTheStopRecord : Prop :=
  ∀ s : State,
    exec .ackStopRecord s = .next { s with stop := { s.stop with record := none } }
    ∧ (s.stop.record = none → ∀ addr : Byte, 0x50 ≤ addr.toNat → addr.toNat ≤ 0x5F → s.windowByte addr = 0)
    ∧ (∀ (c : Instr) (t : State), exec c s = .next t → s.stop.record = none → s.stop.mode = .stopped → t.stop.mode = .stopped →
        t.stop.record = none)
    ∧ (∀ (c : Instr) (t : State), exec c s = .next t → s.stop.record = none → s.cfg.role = .desk → t.stop.record = none)
    ∧ (∃ t, exec .powerOnReset s = .next t ∧ t.stop.record = none)
    ∧ (∃ t, exec .pinReset s = .next t ∧ t.stop.record = s.stop.record)

/-- COUNTER_SELECTION and LANE_COUNT_SELECTION capture the selected value, 0 where the selection names none. DIRECTORY_SELECTION,
CLAIMS_SELECTION and QUEUE_SELECTION copy what the selection names, or zeros. None of them changes anything else. The order of an owner's
two claims is R187's. That the bits without a name in a copied byte are 0 (0x82 bits 3 to 7, 0xA3 bits 4 to 7, 0xC1 bit 7) is the model's
choice (assumption log 67). -/
def Obligations.SelectionsCopyWhatTheyName : Prop :=
  (∀ (s : State) (n : Byte),
    (∃ v, exec (.counterSelection n) s = .next { s with port := { s.port with counterSelect := n, counterValue := v } }
      ∧ (∀ c : Counter, c.number.val = n.toNat → v = s.counter c) ∧ (36 ≤ n.toNat → v = 0))
    ∧ ∃ v, exec (.laneCountSelection n) s = .next { s with port := { s.port with laneCountSelect := n, laneCountValue := v } }
      ∧ (∀ k : LaneKind, k.number.val = n.toNat % 16 →
          v = (s.lane (if 128 ≤ n.toNat then .b else .a)).counts[k.number])
      ∧ (10 ≤ n.toNat % 16 → v = 0))
  ∧ (∀ (s : State) (index : Byte), ∃ t, exec (.directorySelection index) s = .next t ∧ { t with port := s.port } = s
      ∧ t.port = { s.port with
          dirIndex := index, dirHead := t.port.dirHead, dirRecord := t.port.dirRecord, dirStatus := t.port.dirStatus }
      ∧ (∀ e, s.dir.entries[index.toNat]? = some e →
          t.port.dirHead = [(1 + (if e.present then 2 else 0) + (if e.lastStatus.isSome then 4 else 0) : Byte), byteOf e.number]
            ++ bytes16 (s.ageMs e)
          ∧ t.port.dirRecord = e.record.encode
          ∧ t.port.dirStatus = (e.lastStatus.map StatusReport.encode).getD (List.replicate 18 0))
      ∧ (s.dir.entries[index.toNat]? = none → t.port.dirHead = List.replicate 4 0 ∧ t.port.dirRecord = List.replicate 22 0
          ∧ t.port.dirStatus = List.replicate 18 0))
  ∧ (∀ (s : State) (value : Byte),
      exec (.claimsSelection 0xA0 value) s = .next { s with
        port := { s.port with
          claimsIndex := value
          claimsCopy := claimsBytes ((s.claims.table.filter (·.1 = value.toNat)).map Prod.snd) } }
      ∧ exec (.claimsSelection 0xA1 value) s = .next { s with
        port := { s.port with
          claimsOwner := value
          claimsCopy := claimsBytes
            (((s.claims.table.map Prod.snd).filter fun c => c.owner = value.toNat ∧ c.isSweep = false)
              ++ (s.claims.table.map Prod.snd).filter fun c => c.owner = value.toNat ∧ c.isSweep = true) } }
      ∧ claimsBytes [] = List.replicate 30 0
      ∧ (∀ c : Claim, claimsBytes [c] = [byteOf c.owner, (if c.confirmed then 5 else 1 : Byte)] ++ c.record.encode
          ++ List.replicate 14 0)
      ∧ ∀ c d : Claim, claimsBytes [c, d] =
          [byteOf c.owner, (2 + (if c.confirmed then 4 else 0) + (if d.confirmed then 8 else 0) : Byte)] ++ c.record.encode
            ++ d.record.encode)
  ∧ (∀ (s : State) (position : Byte),
      exec (.queueSelection position) s = .next { s with
        port := { s.port with
          queuePosition := position
          queueCopy := (s.cue.queue[position.toNat]?.map QueueEntry.bytes).getD (List.replicate 23 0) } })

/-- BODY_DATA_WRITE and BODY_DATA_READ: the byte at the offset, the offset one further, and nothing at offset 96. The byte a read shifts
out at 96 is a free value (assumption log 10), so nothing is said of it. SUBMIT: the four refusals in their order change only the outcome;
an accepted one takes a place in its class queue at once and frees the mailbox, or waits. -/
def Obligations.MailboxDataAndSubmit : Prop :=
  (∀ (s : State) (value : Byte), s.port.mailbox.offset.toNat ≤ 96 →
    (∀ h : s.port.mailbox.offset.toNat < 96,
      exec (.bodyDataWrite value) s = .next { s with port := { s.port with mailbox := { s.port.mailbox with
          buffer := s.port.mailbox.buffer.set s.port.mailbox.offset.toNat value
          offset := s.port.mailbox.offset + 1 } } }
      ∧ (s.uncaptured 0xE3 = true → exec .bodyDataRead s = .next { s with
          free := s.free + 1
          port := { s.port with
            sdo := s.port.mailbox.buffer[s.port.mailbox.offset.toNat]
            mailbox := { s.port.mailbox with offset := s.port.mailbox.offset + 1 } } }))
    ∧ (s.port.mailbox.offset = 96 →
      exec (.bodyDataWrite value) s = .next s
      ∧ (s.uncaptured 0xE3 = true →
          ∃ v, exec .bodyDataRead s = .next { s with free := s.free + 1, port := { s.port with sdo := v } })))
  ∧ ∀ (s : State) (value : Byte),
    let m := s.port.mailbox
    let ends (o : SubmitOutcome) : Prop :=
      exec (.submit value) s = .next { s with port := { s.port with mailbox := { m with outcome := o } } }
    (m.busy = true → ends .refusedBusy)
    ∧ (m.busy = false → s.stop.mode.onBus = false → ends .refusedMode)
    ∧ (m.busy = false → s.stop.mode.onBus = true → s.mailboxKind = none → ends .refusedKind)
    ∧ (m.busy = false → s.stop.mode.onBus = true → s.mailboxKind ≠ none → 96 < m.length.toNat → ends .refusedLength)
    ∧ (∀ k, m.busy = false → s.stop.mode.onBus = true → s.mailboxKind = some k → m.length.toNat ≤ 96 →
        (s.hasRoom k.cls = true → exec (.submit value) s = .next { s with
          tx := s.tx.setQueue k.cls ⟨(s.tx.queue k.cls).places ++ [s.mailboxFrame k], []⟩
          port := { s.port with
            flags := s.port.flags ||| 0x0080, mailbox := { m with outcome := .accepted, busy := false } } })
        ∧ ((s.tx.queue k.cls).places.length = k.cls.capacity → exec (.submit value) s = .next { s with
          tx := s.tx.setQueue k.cls ⟨(s.tx.queue k.cls).places,
            (s.tx.queue k.cls).waiting ++ [s.mailboxFrame k]⟩
          port := { s.port with mailbox := { m with outcome := .accepted, busy := true } } }))
    ∧ (∀ k, s.mailboxKind = some k ↔ Kind.ofCode m.kind.toNat = some k
        ∧ (k = .halt ∨ k = .stop ∨ s.cfg.role = .desk ∧ (k = .clear ∨ k = .load ∨ k = .go ∨ k = .resume ∨ k = .cancel)))

/-- A write to a record location is stored with its written mark in CONFIG and ignored with WRITE LATE in every other mode; every other
location without a row of its own is written as its block says, or ignored. A page other than 1 is page 0 (assumption log 27). -/
def Obligations.WritesByLocation : Prop :=
  (∀ (s : State) (addr value : Byte) (h : addr.toNat < 48),
      (s.stop.mode = .config → exec (.recordWrite addr value) s = .next { s with
          cfg := { s.cfg with
            image := s.cfg.image.set addr.toNat value h
            written := s.cfg.written ||| (1#26 <<< (fieldPosition addr.toNat - 1)) } })
      ∧ (s.stop.mode ≠ .config →
          exec (.recordWrite addr value) s = .next { s with port := { s.port with flags := s.port.flags ||| 0x0040 } }))
  ∧ (∀ (s : State) (addr value : Byte), ownRowLocation addr = false → ownRowCommand addr value = false →
      exec (.registerWrite addr value) s = .next (
        if addr.toNat < 0x40 then
          (if s.stop.mode = .config then s else { s with port := { s.port with flags := s.port.flags ||| 0x0040 } })
        else if addr = 0x81 then { s with port := { s.port with dirPage := if value = 1 then 1 else 0 } }
        else if addr = 0xE0 then { s with port := { s.port with mailbox := { s.port.mailbox with kind := value } } }
        else if addr = 0xE1 then { s with port := { s.port with mailbox := { s.port.mailbox with length := value } } }
        else if addr = 0xE2 then { s with port := { s.port with mailbox := { s.port.mailbox with
          offset := if 96 < value.toNat then 96 else value } } }
        else s))

/-- A read of one byte of the interrupt flags or of a lane kind set returns it and clears exactly what it returned. That 0x61 and 0x63 show 0
in bits 2 to 7, which the manual does not name, is the model's choice (assumption log 67). -/
def Obligations.ReadsClearWhatTheyReturned : Prop :=
  (∀ s : State,
      (s.uncaptured 0x48 = true → exec (.interruptFlagsRead 0x48) s = .next { s with
          port := { s.port with flags := s.port.flags &&& 0xFF00, sdo := s.port.flags.extractLsb' 0 8 } })
      ∧ (s.uncaptured 0x49 = true → exec (.interruptFlagsRead 0x49) s = .next { s with
          port := { s.port with flags := s.port.flags &&& 0x00FF, sdo := s.port.flags.extractLsb' 8 8 } }))
  ∧ (∀ s : State,
      (s.uncaptured 0x60 = true → exec (.laneKindSetRead 0x60) s = .next { s with
          laneA := { s.laneA with kindSet := s.laneA.kindSet &&& 0x300 }
          port := { s.port with sdo := s.laneA.kindSet.extractLsb' 0 8 } })
      ∧ (s.uncaptured 0x61 = true → exec (.laneKindSetRead 0x61) s = .next { s with
          laneA := { s.laneA with kindSet := s.laneA.kindSet &&& 0x0FF }
          port := { s.port with sdo := (s.laneA.kindSet.extractLsb' 8 2).setWidth 8 } })
      ∧ (s.uncaptured 0x62 = true → exec (.laneKindSetRead 0x62) s = .next { s with
          laneB := { s.laneB with kindSet := s.laneB.kindSet &&& 0x300 }
          port := { s.port with sdo := s.laneB.kindSet.extractLsb' 0 8 } })
      ∧ (s.uncaptured 0x63 = true → exec (.laneKindSetRead 0x63) s = .next { s with
          laneB := { s.laneB with kindSet := s.laneB.kindSet &&& 0x0FF }
          port := { s.port with sdo := (s.laneB.kindSet.extractLsb' 8 2).setWidth 8 } }))

/-- Where the live values stand in the window, as numbers: modes, states, the fault code, the lines, the join byte, height and speed, the
sync snapshot, the captures and selections, the last refusal. A transaction: a write takes each data byte at the next location; a read
shifts out what each location holds and, off the read-to-clear locations and the mailbox data, changes nothing but SDO; any other
operation shifts zeros and changes nothing. That 0x6E shows 0 before any feedback is the model's choice (assumption log 44), that bits
without a name read 0 is log 67, that a transaction is a function of its bytes and that 0x80, 0xA0, 0xA1 and 0xC0 read back their selection
are log 24, and that the address of a burst rises past 0xE3 as past any location is log 61. -/
def Obligations.WindowAndTransactions : Prop :=
  (∀ s : State,
      let at' (a : Byte) : Nat := (s.windowByte a).toNat
      let bit (a : Byte) (i : Nat) : Bool := (s.windowByte a).getLsbD i
      at' 0x40 = 0
      ∧ at' 0x41 = (match s.stop.mode with
          | .config => 0 | .inert => 1 | .joining => 2 | .active => 3 | .halted => 4 | .stopped => 5)
      ∧ at' 0x42 = (match s.exe.motion with
          | .idle => 0 | .delaying => 1 | .gated => 2 | .claiming => 3 | .unbraking => 4 | .moving => 5 | .stopping => 6
          | .settling => 7 | .paused => 8)
      ∧ at' 0x43 = (match s.claims.view with
          | .sound => 0 | .suspect => 1 | .blind => 2)
      ∧ at' 0x44 = (match s.cue.freeze with
          | .none => 0 | .stop => 1 | .waitExpired => 2 | .voidTarget => 3 | .cancelStopped => 4)
      ∧ at' 0x45 = (match s.cue.parked with
          | .notParked => 0 | .pending => 1 | .parked => 2)
      ∧ (s.cfg.fault = none → at' 0x46 = 0 ∧ at' 0x47 = 0)
      ∧ (∀ pos why, s.cfg.fault = some (pos, why) → pos < 27 → at' 0x46 = pos ∧ at' 0x47 = (match why with
          | .unwritten => 1 | .range => 2 | .relation => 3))
      ∧ bit 0x4C 0 = s.stop.duplicate ∧ bit 0x4C 1 = s.drive.torqueReq ∧ bit 0x4C 2 = s.drive.brakeReq
      ∧ bit 0x4C 3 = (s.drive.torqueReq && s.drive.loopRaw) ∧ bit 0x4C 4 = (s.drive.brakeReq && s.drive.loopRaw)
      ∧ bit 0x4C 5 = s.drive.loopClosed ∧ bit 0x4C 6 = s.drive.stopAsserted ∧ bit 0x4C 7 = s.drive.missing
      ∧ at' 0x4D % 4 = (match s.laneA.health with
          | .good => 0 | .degraded => 1 | .off => 2)
      ∧ at' 0x4D / 4 % 4 = (match s.laneB.health with
          | .good => 0 | .degraded => 1 | .off => 2)
      ∧ at' 0x4D / 16 % 4 = (match s.stop.joinStage with
          | .none => 0 | .announcing => 1 | .window => 2 | .joined => 3)
      ∧ bit 0x4D 6 = s.stop.fullColumn ∧ bit 0x4D 7 = false
      ∧ (s.actualHeight = none → 256 * at' 0x4E + at' 0x4F = 65535)
      ∧ (∀ h, s.actualHeight = some h → h ≤ 40000 → 256 * at' 0x4E + at' 0x4F = h)
      ∧ at' 0x65 = s.port.laneCountValue.toNat ∧ 256 * at' 0x6A + at' 0x6B = s.port.counterValue.toNat
      ∧ (s.merger.snapshot = none → at' 0x66 = 0 ∧ at' 0x67 = 0 ∧ at' 0x68 = 0)
      ∧ (∀ x, s.merger.snapshot = some x → at' 0x66 = (match x.event with
            | .missingOnA => 1 | .missingOnB => 2 | .disagree => 3)
          ∧ bit 0x67 0 = x.leadA ∧ bit 0x67 1 = x.leadB ∧ bit 0x67 2 = x.cleanA ∧ bit 0x67 3 = x.cleanB
          ∧ (∀ n, x.source = some n → n < 128 → at' 0x68 = n) ∧ (x.source = none → at' 0x68 = 0))
      ∧ 256 * at' 0x6C + at' 0x6D = s.actualSpeed.toNat
      ∧ s.windowByte 0x6E = (s.drive.latest.map (·.condition)).getD 0
      ∧ at' 0x6F = (match s.dec.lastCode with
          | .none => 0 | .authority => 1 | .role => 2 | .full => 3 | .busy => 4 | .superseded => 5 | .notActive => 6
          | .notReady => 7 | .misfiled => 8 | .parked => 9 | .unknownSource => 10)
      ∧ (s.dec.lastCue = none → at' 0x70 = 0 ∧ at' 0x71 = 0)
      ∧ (∀ n, s.dec.lastCue = some n → n < 65536 → 256 * at' 0x70 + at' 0x71 = n)
      ∧ (∀ a : Byte, (h : a.toNat < 48) → s.windowByte a = s.cfg.image[a.toNat])
      ∧ (∀ a : Byte, 48 ≤ a.toNat → a.toNat < 64 → s.windowByte a = 0)
      ∧ s.windowByte 0x80 = s.port.dirIndex ∧ s.windowByte 0x81 = s.port.dirPage ∧ s.windowByte 0xA0 = s.port.claimsIndex
      ∧ s.windowByte 0xA1 = s.port.claimsOwner ∧ s.windowByte 0xC0 = s.port.queuePosition
      ∧ s.windowByte 0xE0 = s.port.mailbox.kind ∧ s.windowByte 0xE1 = s.port.mailbox.length
      ∧ s.windowByte 0xE2 = s.port.mailbox.offset ∧ bit 0xE5 0 = s.port.mailbox.busy
      ∧ at' 0xE5 / 2 = (match s.port.mailbox.outcome with
          | .none => 0 | .accepted => 1 | .refusedBusy => 2 | .refusedMode => 3 | .refusedKind => 4 | .refusedLength => 5))
  ∧ (∀ (s : State) (op addr : Byte) (data : List Byte),
      let fresh : State := { s with port := { s.port with captured := [] } }
      (op ≠ 2 → op ≠ 3 → s.transaction (op :: addr :: data) = (fresh, List.replicate data.length 0))
      ∧ (s.transaction [2, addr]).1 = fresh
      ∧ (∀ v, s.transaction (2 :: addr :: v :: data) = (fresh.writeLocation addr v).transaction (2 :: (addr + 1) :: data))
      ∧ (∀ v, (addr.toNat < 48 → exec (.recordWrite addr v) fresh = .next (fresh.writeLocation addr v))
          ∧ (ownRowLocation addr = false → ownRowCommand addr v = false →
              exec (.registerWrite addr v) fresh = .next (fresh.writeLocation addr v))
          ∧ (addr = 0x4A ∨ addr = 0x4B → exec (.interruptEnablesWrite addr v) fresh = .next (fresh.writeLocation addr v))
          ∧ exec (.submit v) fresh = .next (fresh.writeLocation 0xE4 v)
          ∧ exec (.bodyDataWrite v) fresh = .next (fresh.writeLocation 0xE3 v)
          ∧ exec .close fresh = .next (fresh.writeLocation 0x40 1))
      ∧ (s.transaction (3 :: addr :: data)).2.length = data.length
      ∧ ((∀ i, i < data.length → let a := (addr + BitVec.ofNat 8 i).toNat
            a ≠ 0x48 ∧ a ≠ 0x49 ∧ (a < 0x60 ∨ 0x63 < a) ∧ a ≠ 0xE3) →
          (∃ v, (s.transaction (3 :: addr :: data)).1 = { s with port := { s.port with captured := [], sdo := v } })
          ∧ ∀ i, i < data.length →
              (s.transaction (3 :: addr :: data)).2[i]? = some (s.windowByte (addr + BitVec.ofNat 8 i)))
      ∧ (∀ x, s.transaction [3, 0x48, x] =
          ({ s with port := { s.port with captured := [], flags := s.port.flags &&& 0xFF00, sdo := s.port.flags.extractLsb' 0 8 } },
            [s.port.flags.extractLsb' 0 8])))

/-- A copy or capture stands until its own next selection or a reset, and outside CONFIG only a reset changes the record. -/
def Obligations.SnapshotsAndRecordHold : Prop :=
  (∀ (c : Instr) (s t : State), c.wellFormed = true → c.isReset = false → exec c s = .next t →
      ((∀ i, c ≠ .directorySelection i) →
        t.port.dirHead = s.port.dirHead ∧ t.port.dirRecord = s.port.dirRecord ∧ t.port.dirStatus = s.port.dirStatus)
      ∧ ((∀ a v, c ≠ .claimsSelection a v) → t.port.claimsCopy = s.port.claimsCopy)
      ∧ ((∀ p, c ≠ .queueSelection p) → t.port.queueCopy = s.port.queueCopy)
      ∧ ((∀ n, c ≠ .counterSelection n) → t.port.counterValue = s.port.counterValue)
      ∧ ((∀ n, c ≠ .laneCountSelection n) → t.port.laneCountValue = s.port.laneCountValue))
  ∧ (∀ (c : Instr) (s t : State), c.isReset = false → exec c s = .next t →
      s.stop.mode ≠ .config → t.cfg = s.cfg)

/-- The five commands of location 0x40 and every other value written there: CLOSE ends the window in CONFIG and has no effect outside it,
PARK REQUEST and UNPARK act at a station that parks, ACK STOP RECORD empties the record, and CLEAR COUNTERS leaves all but the counters. -/
def Obligations.CommandsOfTheCommandLocation : Prop :=
  (∀ s : State,
      exec (.registerWrite 0x40 1) s = exec .close s ∧ exec (.registerWrite 0x40 2) s = exec .parkRequest s
      ∧ exec (.registerWrite 0x40 3) s = exec .unpark s ∧ exec (.registerWrite 0x40 4) s = exec .ackStopRecord s
      ∧ exec (.registerWrite 0x40 5) s = exec .clearCounters s
      ∧ (∀ v : Byte, v = 0 ∨ 5 < v.toNat → exec (.registerWrite 0x40 v) s = .next s)
      ∧ (s.stop.mode = .config → ∃ t, exec .close s = .next t ∧ t.stop.mode ≠ .config)
      ∧ (s.stop.mode ≠ .config → exec .close s = .next s)
      ∧ exec .ackStopRecord s = .next { s with stop := { s.stop with record := none } }
      ∧ exec .clearCounters s = .next { s with
          counters := Vector.replicate 36 0
          laneA := { s.laneA with counts := Vector.replicate 10 0 }
          laneB := { s.laneB with counts := Vector.replicate 10 0 } })
  ∧ (∀ s : State,
      (s.cfg.role = .axis ∧ s.stop.mode.onBus = true →
        (s.cue.parked = .notParked → s.inCue = true → exec .parkRequest s = .next { s with
            cue := { s.cue with parked := .pending }, port := { s.port with flags := s.port.flags ||| 0x0400 } })
        ∧ (s.cue.parked = .notParked → s.inCue = false → exec .parkRequest s = .next { s with
            cue := { s.cue with parked := .parked, queue := s.cue.queue.filter (4 ≤ ·.specificity) }
            counters := s.counters.set 9
              (saturate16 (s.counter .parkRemoved) (s.cue.queue.filter (·.specificity < 4)).length)
            port := { s.port with flags := s.port.flags ||| 0x0400 } })
        ∧ (s.cue.parked ≠ .notParked → exec .parkRequest s = .next s ∧ exec .unpark s = .next { s with
            cue := { s.cue with parked := .notParked }, port := { s.port with flags := s.port.flags ||| 0x0400 } })
        ∧ (s.cue.parked = .notParked → exec .unpark s = .next s))
      ∧ (¬(s.cfg.role = .axis ∧ s.stop.mode.onBus = true) → exec .parkRequest s = .next s ∧ exec .unpark s = .next s))

/-! ### The drive and the plant lines -/

/-- LINK_CYCLE. Where no trajectory runs: POLL off the bus and before UNBRAKING, else the held setpoint with speed 0; a DESK's link is off
and sends nothing. In MOVING and STOPPING the setpoint becomes the trajectory's height at the cycle's moment exactly when the own SWEEP is
HELD and its band contains the load's occupied band there; else it stays (the model's choice, assumption log 29). The speed's rounding is
a free value (log 9). The next cycle is 1 ms after this one; that the clock moves to the cycle's moment, and where the first cycle falls,
are the model's choices (log 2 and 7). -/
def Obligations.LinkCycleMessages : Prop :=
  (∀ s : State,
      (s.drive.linkOn = false → exec .linkCycle s = .next s)
      ∧ (s.drive.linkOn = true →
          let sends (message : List Byte) : Prop := exec .linkCycle s = .next { s.advanceTo s.drive.nextLink with
            drive := { s.drive with nextLink := s.drive.nextLink + 1000, outbound := message } }
          (s.stop.mode.onBus = false ∨ s.exe.motion.restful = true → sends pollMessage)
          ∧ (s.stop.mode.onBus = true → s.exe.motion = .unbraking ∨ s.exe.motion = .settling ∨ s.exe.motion = .paused →
              (∀ h, s.exe.setpoint = some h → sends (setpointMessage h 0)) ∧ (s.exe.setpoint = none → sends pollMessage))))
  ∧ (∀ (s : State) (j : Trajectory), s.drive.linkOn = true → s.stop.mode.onBus = true →
      s.exe.motion = .moving ∨ s.exe.motion = .stopping → s.exe.trajectory = some j →
      let now := max s.now s.drive.nextLink
      let allowed : Prop := ∃ c, s.ownSweep = some c ∧ c.isHeld = true ∧ (s.ownOccupied (j.heightAt now)).inside c.vertical = true
      ∃ t w, exec .linkCycle s = .next t
        ∧ (w = (j.speedAt now).1 ∨ (j.speedAt now).2 = true ∧ w = (j.speedAt now).1 + 1)
        ∧ (allowed → t.exe.setpoint = some (j.heightAt now))
        ∧ (¬allowed → t.exe.setpoint = s.exe.setpoint ∧ t.cue = s.cue)
        ∧ (∀ h, t.exe.setpoint = some h →
            t.drive.outbound = setpointMessage h (if j.upward then (w : Int) else -(w : Int)))
        ∧ (t.exe.setpoint = none → t.drive.outbound = pollMessage)
        ∧ (allowed → ∀ e rest, s.cue.queue = e :: rest → t.cue.queue =
            (if some (j.heightAt now) = s.exe.startHeight then e else { e with moved := true }) :: rest)
        ∧ t.now = now ∧ t.free = s.free + 1 ∧ t.exe = { s.exe with setpoint := t.exe.setpoint }
        ∧ t.drive = { s.drive with nextLink := s.drive.nextLink + 1000, outbound := t.drive.outbound }
        ∧ t.cue = { s.cue with queue := t.cue.queue }
        ∧ { t with now := s.now, free := s.free, exe := s.exe, drive := s.drive, cue := s.cue } = s)

/-- A profile begins at its start, is at its target from the moment of rest on, and never leaves the span between them. A deceleration
begins at its start with its exact speed, is limited at the target, and is never faster than at its start. -/
def Obligations.ProfileRunsFromStartToTarget : Prop :=
  (∀ start target v a d since now : Nat, 0 < v → 0 < a → 0 < d →
    let j := Trajectory.profile start target v a d since
    j.heightAt since = start
    ∧ (j.restAt ≤ now → j.heightAt now = target)
    ∧ min start target ≤ j.heightAt now ∧ j.heightAt now ≤ max start target)
  ∧ ∀ (start target rate since now : Nat) (v : Speed),
    let k := Trajectory.deceleration start target v rate since
    k.heightAt since = start
    ∧ min start target ≤ k.heightAt now ∧ k.heightAt now ≤ max start target
    ∧ (start ≠ target → k.exactSpeed since = v)
    ∧ (k.speedAt now).1 ≤ v.whole.1

/-- The check of a feedback message: seven bytes, the first 3, the sum 0, a brake state of the list, and a valid position at most 40,000;
a message that fails is discarded and counted FEEDBACK BAD, with nothing else changed. A good feedback becomes the latest one. With the
load braked at rest, no condition beginning and the height inside the limits it changes nothing else; where FAULT or NOT READY begins it
stops an AXIS at once, whatever the executor does. The raised marks follow assumption log 19; that the LIMIT mark clears at a feedback with
no valid position is log 56. -/
def Obligations.FeedbackCheckedAndTaken : Prop :=
  ((∀ (now : Nat) (m : List Byte) (f : Feedback), parseFeedback now m = some f ↔
    ∃ h₁ h₀ s₁ s₀ c k : Byte, m = [3, h₁, h₀, s₁, s₀, c, k] ∧ 3 + h₁ + h₀ + s₁ + s₀ + c + k = 0
      ∧ (c.getLsbD 3 && c.getLsbD 4) = false ∧ (c.getLsbD 2 = true → 256 * h₁.toNat + h₀.toNat ≤ 40000)
      ∧ f = ⟨256 * h₁.toNat + h₀.toNat, (s₁ ++ s₀ : BitVec 16), c, now⟩)
  ∧ ∀ (s : State) (m : List Byte),
      (s.drive.linkOn = true → parseFeedback s.now m = none → exec (.feedback m) s = .next { s with
        counters := s.counters.set 16 (saturate16 (s.counter .feedbackBad) 1) })
      ∧ (s.drive.linkOn = false → exec (.feedback m) s = .next s))
  ∧ (∀ (s : State) (m : List Byte) (f : Feedback), s.drive.linkOn = true → parseFeedback s.now m = some f →
      driveConditionBegins s.drive.latest f = false → s.stop.fullColumn = false → f.brake = some .applied →
      s.exe.motion = .idle ∨ s.exe.motion = .delaying ∨ s.exe.motion = .claiming → s.exe.setpoint = none →
      (f.positionValid = true → s.cfg.softLow ≤ f.height + s.cfg.followLimit ∧ f.height ≤ s.cfg.softHigh + s.cfg.followLimit) →
      exec (.feedback m) s = .next { s with
        drive := { s.drive with latest := some f, missing := false, slip := .off }
        exe := { s.exe with raised :=
          { following := false, limit := false, position := !f.positionValid && s.exe.raised.position
            standstill := false, brake := false } } })
  ∧ (∀ (s : State) (m : List Byte) (f : Feedback), s.drive.linkOn = true → parseFeedback s.now m = some f →
      driveConditionBegins s.drive.latest f = true → s.cfg.role = .axis → s.stop.mode.running = true →
      ∃ t, exec (.feedback m) s = .next t ∧ t.stop.mode = .stopped ∧ t.stop.record.map (·.cause) = some .drive
        ∧ t.drive.torqueReq = false ∧ t.drive.brakeReq = false ∧ t.drive.latest = some f ∧ t.drive.missing = false
        ∧ t.claims = s.claims ∧ t.cfg = s.cfg ∧ t.dir = s.dir ∧ t.pending = s.pending)

/-- Two feedbacks that the executor waits for. UNBRAKING becomes MOVING at the feedback that shows the brake released, on a profile from
the setpoint to the target with the segment's speed, acceleration and deceleration. SETTLING with the brake commanded: the feedback that
shows it applied removes torque, and the RELEASE is queued with the band at the actual height, or with the pre-move band where the load
has not moved. The raised marks follow assumption log 19; that a feedback in UNBRAKING ends a slipping-brake measurement is log 58. -/
def Obligations.BrakeFeedbackMovesTheExecutor : Prop :=
  (∀ (s : State) (m : List Byte) (f : Feedback) (g : Segment) (p : Nat), s.drive.linkOn = true →
    parseFeedback s.now m = some f → driveConditionBegins s.drive.latest f = false → s.stop.fullColumn = false →
    s.exe.motion = .unbraking → s.exe.segment = some g → s.exe.setpoint = some p → f.brake = some .released →
    f.positionValid = true → gap p f.height ≤ s.cfg.followLimit →
    s.cfg.softLow ≤ f.height + s.cfg.followLimit → f.height ≤ s.cfg.softHigh + s.cfg.followLimit →
    let j := Trajectory.profile p g.target g.speed g.accel g.decel s.now
    exec (.feedback m) s = .next { s with
      drive := { s.drive with latest := some f, missing := false, slip := .off }
      exe := { s.exe with
        motion := .moving, trajectory := some j, brakeSince := none, standSince := none, restSince := some j.restAt
        purpose := none, stage := .running, raised := ⟨false, false, false, false, false⟩ } })
  ∧ ∀ (s : State) (m : List Byte) (f : Feedback), s.drive.linkOn = true → parseFeedback s.now m = some f →
    driveConditionBegins s.drive.latest f = false → s.stop.fullColumn = false → s.stop.mode.onBus = true →
    s.stop.duplicate = false → s.exe.motion = .settling → s.exe.stage = .applying → s.exe.purpose ≠ some .hold →
    f.brake = some .applied → f.positionValid = true → (∀ p, s.exe.setpoint = some p → gap p f.height ≤ s.cfg.followLimit) →
    s.cfg.softLow ≤ f.height + s.cfg.followLimit → f.height ≤ s.cfg.softHigh + s.cfg.followLimit →
    ∃ t, exec (.feedback m) s = .next t ∧ t.exe.motion = .settling ∧ t.drive.torqueReq = false
      ∧ t.drive.brakeReq = s.drive.brakeReq
      ∧ t.owesRelease (if s.exe.usePreMove then s.exe.preMove.getD (s.ownOccupied f.height) else s.ownOccupied f.height)
      ∧ t.stop = s.stop ∧ t.claims = s.claims ∧ t.cue = s.cue ∧ t.dir = s.dir

/-- A feedback while the executor moves. In MOVING the travel is measured and kept; where it has reached, now or before, a multiple of the
trim step beyond the trim count and the load lies at or behind the setpoint, one TRIM is queued, or dropped and counted for want of room. At
rest at the target 50 ms of slow speed settle the load and a faster feedback starts them afresh, whether or not trims are asked for.
FOLLOWING, LIMIT and a position not valid each stop an AXIS at once, and not again while the condition holds. A pause whose brake shows
applied is PAUSED, and unbrakes at once in ACTIVE. The first valid position after a full-column ANNOUNCE queues the RELEASE that narrows it.
The raised marks follow assumption log 19, a crossing kept over a pause log 49; that a feedback in motion ends a slipping-brake measurement
is log 58, and that the FOLLOWING and LIMIT marks clear at a feedback with no valid position is log 56. A further trip in SETTLING is log 18,
and that an idle executor holds no profile start height log 62. -/
def Obligations.FeedbackInMotion : Prop :=
  ∀ (s : State) (m : List Byte) (f : Feedback), s.drive.linkOn = true → parseFeedback s.now m = some f →
    driveConditionBegins s.drive.latest f = false →
    let taken : DrivePort := { s.drive with latest := some f, missing := false, slip := .off }
    let raised (following limit position : Bool) : Executor := { s.exe with raised := ⟨following, limit, position, false, false⟩ }
    let trips (cause : StopCause) (exe : Executor) : Prop :=
      let a : State := { s with drive := taken, exe := exe }
      ∃ t, exec (.feedback m) s = .next t ∧ t.stop = { s.stop with mode := .stopped, record := a.recordAfter cause none }
        ∧ t.drive = { taken with torqueReq := false, brakeReq := false }
        ∧ (f.brake ≠ some .applied ∨ s.stop.duplicate = false ∧ s.exe.purpose ≠ some .hold → a.tripsTo t cause)
    let follows : Prop := ∀ p, s.exe.setpoint = some p → gap p f.height ≤ s.cfg.followLimit
    let inside : Prop := s.cfg.softLow ≤ f.height + s.cfg.followLimit ∧ f.height ≤ s.cfg.softHigh + s.cfg.followLimit
    (∀ g start p, s.stop.fullColumn = false → f.positionValid = true → follows → inside → s.exe.motion = .moving →
      s.exe.segment = some g → s.exe.startHeight = some start → s.exe.setpoint = some p →
      (g.trim = true → s.cfg.trimStep ≠ 0 → (∀ r, s.exe.restSince = some r → s.now < r) →
        let reached := max s.exe.trimReached (gap f.height start / s.cfg.trimStep)
        let due : Prop := s.exe.trimCount < reached ∧ if start ≤ g.target then f.height ≤ p else p ≤ f.height
        let measured : Executor := { raised false false false with trimReached := reached }
        (¬due → exec (.feedback m) s = .next { s with drive := taken, exe := measured })
        ∧ (due → s.stop.mode.onBus = true → s.stop.duplicate = false →
          (s.tx.space.places.length < 4 → s.tx.space.waiting = [] → exec (.feedback m) s = .next { s with
            drive := taken, exe := { measured with trimCount := reached }
            tx := { s.tx with space := ⟨s.tx.space.places
              ++ [⟨.trim, .executor, some (Content.trim g.cue g.index (s.sweepBand f.height g.target)).encode, false⟩], []⟩ } })
          ∧ (4 ≤ s.tx.space.places.length ∨ s.tx.space.waiting ≠ [] → exec (.feedback m) s = .next { s with
            drive := taken, exe := { measured with trimCount := reached }
            counters := s.counters.set 11 (saturate16 (s.counter .trimDropped) 1) })))
      ∧ (∀ r, g.trim = false ∨ s.cfg.trimStep = 0 → s.exe.restSince = some r → r ≤ s.now →
        (5 ≤ f.speed.toInt.natAbs → exec (.feedback m) s = .next { s with
          drive := taken, exe := { raised false false false with standSince := none } })
        ∧ (f.speed.toInt.natAbs < 5 →
          (s.now < s.exe.standSince.getD s.now + 50000 → exec (.feedback m) s = .next { s with
            drive := taken, exe := { raised false false false with standSince := some (s.exe.standSince.getD s.now) } })
          ∧ (s.exe.standSince.getD s.now + 50000 ≤ s.now → exec (.feedback m) s = .next { s with
            drive := { taken with brakeReq := false }
            exe := { raised false false false with
              motion := .settling, purpose := some .release, stage := .applying, brakeSince := some s.now, standSince := none
              restSince := none } })))
      ∧ (∀ r, g.trim = true → s.cfg.trimStep ≠ 0 → s.exe.restSince = some r → r ≤ s.now →
        let reached := max s.exe.trimReached (gap f.height start / s.cfg.trimStep)
        let due : Prop := s.exe.trimCount < reached ∧ if start ≤ g.target then f.height ≤ p else p ≤ f.height
        ∃ t count, exec (.feedback m) s = .next t ∧ t.stop = s.stop ∧ t.claims = s.claims
          ∧ (due → count = reached) ∧ (¬due → count = s.exe.trimCount ∧ t.tx = s.tx)
          ∧ (due → s.stop.mode.onBus = true → s.stop.duplicate = false → s.tx.space.places.length < 4 → s.tx.space.waiting = [] →
              t.tx.space.frames.getLast? = some
                ⟨.trim, .executor, some (Content.trim g.cue g.index (s.sweepBand f.height g.target)).encode, false⟩)
          ∧ let measured : Executor := { raised false false false with trimReached := reached, trimCount := count }
            (5 ≤ f.speed.toInt.natAbs → t.drive = taken ∧ t.exe = { measured with standSince := none })
            ∧ (f.speed.toInt.natAbs < 5 → s.now < s.exe.standSince.getD s.now + 50000 →
                t.drive = taken ∧ t.exe = { measured with standSince := some (s.exe.standSince.getD s.now) })
            ∧ (f.speed.toInt.natAbs < 5 → s.exe.standSince.getD s.now + 50000 ≤ s.now →
                t.drive = { taken with brakeReq := false } ∧ t.exe = { measured with
                  motion := .settling, purpose := some .release, stage := .applying, brakeSince := some s.now, standSince := none
                  restSince := none })))
    ∧ (s.cfg.role = .axis → s.stop.mode.onBus = true → s.stop.fullColumn = false →
      (∀ p, f.positionValid = true → inside → s.exe.motion.driven = true → s.exe.setpoint = some p →
        s.cfg.followLimit < gap p f.height →
        (s.exe.raised.following = false → trips .following (raised true false false))
        ∧ (s.exe.raised.following = true → ∃ t, exec (.feedback m) s = .next t ∧ t.stop = s.stop))
      ∧ (f.positionValid = true → follows → ¬inside → s.exe.motion.driven = true ∨ f.brake = some .applied →
        (s.stop.mode ≠ .joining → s.exe.raised.limit = false → trips .limit (raised false true false))
        ∧ (s.stop.mode = .joining ∨ s.exe.raised.limit = true → ∃ t, exec (.feedback m) s = .next t ∧ t.stop = s.stop))
      ∧ (f.positionValid = false → s.exe.motion.driven = true →
        (s.exe.raised.position = false → trips .drive (raised false false true))
        ∧ (s.exe.raised.position = true → ∃ t, exec (.feedback m) s = .next t ∧ t.stop = s.stop)))
    ∧ (s.stop.fullColumn = false → f.positionValid = true → follows → inside → s.exe.motion = .stopping →
      s.exe.stage = .applying → f.brake = some .applied →
      (s.stop.mode ≠ .active → exec (.feedback m) s = .next { s with
        drive := { taken with torqueReq := false }
        exe := { raised false false false with
          motion := .paused, purpose := none, stage := .running, brakeSince := none, standSince := none, restSince := none } })
      ∧ (s.stop.mode = .active → exec (.feedback m) s = .next { s with
        drive := { taken with torqueReq := true, brakeReq := true }
        exe := { raised false false false with
          motion := .unbraking, purpose := none, stage := .running, brakeSince := some s.now, standSince := none
          restSince := none } }))
    ∧ (s.stop.fullColumn = true → s.stop.mode.onBus = true → s.exe.motion = .idle → s.exe.setpoint = none →
      f.brake = some .applied →
      (f.positionValid = false → ∃ t, exec (.feedback m) s = .next t ∧ t.stop = s.stop ∧ t.tx = s.tx)
      ∧ (f.positionValid = true → inside → ∃ t, exec (.feedback m) s = .next t ∧ t.stop = { s.stop with fullColumn := false }
        ∧ t.drive = taken ∧ t.exe = raised false false false ∧ t.claims = s.claims ∧ t.dir = s.dir ∧ t.cue = s.cue
        ∧ (s.stop.duplicate = true → t.tx = s.tx)
        ∧ (s.stop.duplicate = false →
          t.tx.space.frames.getLast? = some
            ⟨.release, .joining, some (Content.release s.ownDepth (s.ownOccupied f.height)).encode, false⟩
          ∧ ∀ x ∈ t.tx.space.frames, x.inFlight = false → x.kind ≠ .trim)))

/-- The immediate stops that a timer or an input raises at an AXIS on the bus, each with its cause: the record, both drive requests off, a
started head frozen, and the executor's column, in which a segment still delaying or gated is given up, a claim is given up or withdrawn,
and a load under way settles after a trip. The clock moves to the due moment (the model's choice, assumption log 2); that an idle executor
holds no profile start height is log 62, a further trip in SETTLING log 18. -/
def Obligations.ImmediateStopsAtAnAxis : Prop :=
  ∀ (s : State) (due : Nat), s.cfg.role = .axis → s.stop.mode.onBus = true →
    let a := s.advanceTo due
    (s.missingDue = some due → ∃ t, exec .feedbackMissing s = .next t
      ∧ State.tripsTo { a with drive := { a.drive with missing := true } } t .drive
      ∧ t.counter .feedbackMissing = saturate16 (s.counter .feedbackMissing) 1)
    ∧ (s.loopDue = some due → s.drive.loopClosed = true → s.drive.loopRaw = false → ∃ t, exec .loopOpening s = .next t
      ∧ State.tripsTo { a with drive := { a.drive with loopClosed := false, loopSince := none } } t .loop)
    ∧ (s.slipDue = some due → ∃ t, exec .slippingBrake s = .next t
      ∧ State.tripsTo { a with drive := { a.drive with slip := .requested } } t .brake)
    ∧ (s.brakeDue = some due → s.exe.raised.brake = false → ∃ t, exec .brakeTimeLimit s = .next t
      ∧ State.tripsTo { a with exe := { a.exe with brakeSince := none, raised := { a.exe.raised with brake := true } } } t .brake)
    ∧ (s.standstillLimit = some due → s.exe.raised.standstill = false → ∃ t, exec .standstillTimeout s = .next t
      ∧ State.tripsTo { a with exe := { a.exe with restSince := none, raised := { a.exe.raised with standstill := true } } } t
          .following)

/-- The two inputs: the lines TQEN and BKREL follow the raw loop level at once, each filter starts at a change away from the filtered
state and ends at a change back to it, and a filtered closing or release is no request and no change of mode. LOCAL_STOP: on the bus a
STOP to ALL with cause LOCAL STOP stands in the SAFE queue, and an AXIS has taken a controlled stop; off the bus the filtered state alone
changes. The clock moves to the due moment (the model's choice, assumption log 2). A DESK on the bus does not read its loop input (log
40). -/
def Obligations.InputsFiltersAndLocalStop : Prop :=
  (∀ (s : State) (level : Bool),
      (s.drive.loopRaw = level → exec (.loopInputChange level) s = .next s)
      ∧ (s.drive.loopRaw ≠ level → exec (.loopInputChange level) s = .next { s with drive := { s.drive with
          loopRaw := level
          loopSince := if s.readsLoop = true ∧ level ≠ s.drive.loopClosed then some s.now else none } })
      ∧ (s.drive.stopRaw = level → exec (.localStopInputChange level) s = .next s)
      ∧ (s.drive.stopRaw ≠ level → exec (.localStopInputChange level) s = .next { s with drive := { s.drive with
          stopRaw := level
          stopSince := if level ≠ s.drive.stopAsserted then some s.now else none } })
      ∧ ∀ t, exec (.loopInputChange level) s = .next t →
          t.tqenLine = (s.drive.torqueReq && level) ∧ t.bkrelLine = (s.drive.brakeReq && level))
  ∧ (∀ (s : State) (due : Nat),
      let a := s.advanceTo due
      (s.loopDue = some due → s.drive.loopClosed = false → s.drive.loopRaw = true →
        exec .loopClosing s = .next { a with drive := { a.drive with loopClosed := true, loopSince := none } })
      ∧ (s.loopDue = some due → s.drive.loopClosed = true ∨ s.drive.loopRaw = false → exec .loopClosing s = .next s)
      ∧ (s.stopInputDue = some due → s.drive.stopAsserted = true → s.drive.stopRaw = false →
        exec .localStopRelease s = .next { a with drive := { a.drive with stopAsserted := false, stopSince := none } })
      ∧ (s.stopInputDue = some due → s.drive.stopAsserted = false ∨ s.drive.stopRaw = true →
        exec .localStopRelease s = .next s)
      ∧ (s.stopInputDue = some due → s.drive.stopAsserted = true ∨ s.drive.stopRaw = false → exec .localStop s = .next s)
      ∧ (s.loopDue = none → exec .loopClosing s = .next s)
      ∧ (s.stopInputDue = none → exec .localStopRelease s = .next s ∧ exec .localStop s = .next s))
  ∧ ∀ (s : State) (due : Nat), s.stopInputDue = some due → s.drive.stopAsserted = false → s.drive.stopRaw = true →
    let a := s.advanceTo due
    let b : State := { a with drive := { a.drive with stopAsserted := true, stopSince := none } }
    (s.stop.mode.onBus = false → exec .localStop s = .next b)
    ∧ (s.stop.mode.onBus = true → ∃ t, exec .localStop s = .next t
      ∧ (t.tx.safe.frames.any (·.origin == .localStop)) = true
      ∧ ((s.tx.safe.frames.any (·.origin == .localStop)) = false →
          t.tx.safe.frames = s.tx.safe.frames ++ [⟨.stop, .localStop, some [3, 0, 0, 1], false⟩])
      ∧ t.drive.stopAsserted = true ∧ t.drive.stopSince = none
      ∧ (s.cfg.role = .axis → t.stop = { s.stop with mode := .stopped, record := b.recordAfter .localStop none })
      ∧ (s.cfg.role = .desk → t.stop = s.stop ∧ t.exe = b.exe ∧ t.cue = s.cue)
      ∧ t.claims = s.claims ∧ t.dir = s.dir ∧ t.cfg = s.cfg)

/-! ### The executor's timers -/

/-- DELAY_EXPIRY: GATED with the wait timer started; the CLAIM is queued at once where gate, mode, view and height let it, and without
them the executor stays GATED. WAIT_EXPIRED: counted, the queue frozen; a GATED executor is IDLE, an unsent CLAIM is taken back, and a
sent one is followed by a WITHDRAW whose echo is awaited. The segment stays at the head, started. The clock moves to the due moment (the
model's choice, assumption log 2); that an idle executor holds no profile start height is log 62. -/
def Obligations.DelayAndWaitExpire : Prop :=
  (∀ (s : State) (g : Segment), s.exe.motion = .delaying → s.stop.mode = .active → s.exe.segment = some g →
      ∃ due, s.delayDue = some due ∧
        let a := s.advanceTo due
        let gated (latch : Bool) : Executor := { a.exe with motion := .gated, waitSince := some a.now, gateLatch := latch }
        let open' : Bool := (g.gate.map s.gateSatisfied).getD true
        a.exe.delayElapsed = max s.exe.delayElapsed (1000 * g.delay.getD 0)
        ∧ (open' = false → exec .delayExpiry s = .next { a with exe := gated false })
        ∧ (open' = true → s.claims.view ≠ .sound ∨ s.actualHeight = none → exec .delayExpiry s = .next { a with exe := gated true })
        ∧ (open' = true → s.claims.view = .sound → ∀ h, s.actualHeight = some h → ∃ t, exec .delayExpiry s = .next t
            ∧ t.exe = { gated true with
                motion := .claiming, startHeight := some h, awaiting := .nothing, preMove := some (s.preMoveBand h)
                usePreMove := false }
            ∧ (s.stop.duplicate = false → t.tx.space.frames = s.tx.space.frames
                ++ [⟨.claim, .executor, some (Content.claim s.ownDepth (s.sweepBand h g.target) g.precedence g.cue g.index).encode,
                    false⟩])
            ∧ { t with exe := a.exe, tx := s.tx, port := s.port } = a))
  ∧ (∀ (s : State) (due : Nat) (e : QueueEntry) (rest : List QueueEntry), s.waitDue = some due → s.cue.queue = e :: rest →
      e.cancelling = false → s.stop.duplicate = false → s.stop.mode.onBus = true →
      ∃ t, exec .waitExpired s = .next t ∧ t.now = max s.now due
        ∧ t.counter .waitExpired = saturate16 (s.counter .waitExpired) 1
        ∧ t.cue = { s.cue with freeze := if s.cue.freeze = .none then .waitExpired else s.cue.freeze }
        ∧ (s.exe.motion = .gated → t.exe = s.exe.idled ∧ t.tx = s.tx)
        ∧ (s.exe.motion = .claiming → s.hasUnsent .space (·.kind == .claim) = true → t.exe = s.exe.idled
            ∧ t.hasUnsent .space (·.kind == .claim) = false)
        ∧ (s.exe.motion = .claiming → s.hasUnsent .space (·.kind == .claim) = false →
            t.exe = { s.exe with waitSince := none, awaiting := .withdraw }
            ∧ t.tx.space.frames = s.tx.space.frames ++ [⟨.withdraw, .executor, some [], false⟩])
        ∧ t.stop = s.stop ∧ t.claims = s.claims ∧ t.dir = s.dir ∧ t.drive = s.drive ∧ t.free = s.free ∧ t.dec = s.dec)

/-! ### The Claims Engine's and the directory's timers -/

/-- RESTATE_WINDOW_EXPIRY: the unconfirmed owners are counted and their claims kept, the view becomes SOUND unless a request is queued or
the view is BLIND, and the first end after the ANNOUNCE ends the join. The clock moves to the due moment (the model's choice, assumption
log 2). -/
def Obligations.RestateWindowEnds : Prop :=
  ∀ s : State,
    (s.windowDue = none → exec .restateWindowExpiry s = .next s)
    ∧ ∀ due, s.windowDue = some due → ∃ t, exec .restateWindowExpiry s = .next t ∧ t.now = max s.now due
      ∧ t.claims = { s.claims with
          windowSince := none
          view := if s.claims.view = .suspect ∧ s.hasQueued .restateRequest = false then .sound else s.claims.view }
      ∧ t.counter .restateMissing = saturate16 (s.counter .restateMissing)
          (((s.claims.table.filter fun x => !x.2.confirmed).map (·.2.owner)).eraseDups.length)
      ∧ (s.stop.joinStage ≠ .window → t.stop = s.stop)
      ∧ (s.stop.joinStage = .window → t.stop.joinStage = .joined
          ∧ (s.stop.mode ≠ .joining → t.stop.mode = s.stop.mode)
          ∧ (s.stop.mode = .joining → s.cfg.role = .axis → s.plantReady = false →
              t.stop.mode = .stopped ∧ t.stop.record.map (·.cause) = some .drive)
          ∧ (s.stop.mode = .joining → s.cfg.role = .desk ∨ s.plantReady = true → t.stop.mode = .active))
      ∧ t.cfg = s.cfg ∧ t.dir = s.dir ∧ t.free = s.free ∧ t.dec = s.dec ∧ t.laneA = s.laneA ∧ t.laneB = s.laneB
      ∧ t.merger = s.merger ∧ t.pending = s.pending

/-! ### The Transmitter -/

/-- BUS_IDLE: nothing while a judged lane is busy; else a deferral counts down, and without one the highest class with an unsent frame
begins its contest if no frame is under way. CONTEST_LOST and CONTEST_WON: the loser stays unsent at the head, counted; the winner is in
flight, a RESTATE with its content from the table now, an ANNOUNCE with its content and the full-column mark from the latest feedback.
What BUS_IDLE does while a lane is busy is assumption log 32; rows outside CONTEST have no effect (the model's choice, log 5); the order
of listed claims is log 36. -/
def Obligations.ContestsBeginAndEnd : Prop :=
  (∀ s : State,
    (s.busIsIdle = false → exec .busIdle s = .next s)
    ∧ (s.busIsIdle = true →
      (s.tx.deferral ≠ 0 → exec .busIdle s = .next { s with tx := { s.tx with deferral := s.tx.deferral - 1 } })
      ∧ (s.tx.deferral = 0 → s.tx.state ≠ .idle → exec .busIdle s = .next s)
      ∧ (s.tx.deferral = 0 → s.tx.state = .idle →
          (∀ c, (∃ f ∈ (s.tx.queue c).places, f.inFlight = false) →
            (∀ d, d.code < c.code → ∀ f ∈ (s.tx.queue d).places, f.inFlight = true) →
            exec .busIdle s = .next { s with tx := { s.tx with state := .contest c } })
          ∧ ((∀ c, ∀ f ∈ (s.tx.queue c).places, f.inFlight = true) → exec .busIdle s = .next s))))
  ∧ ∀ (s : State) (c : FrameClass),
    (s.tx.state = .contest c →
      exec .contestLost s = .next { s with
        tx := { s.tx with state := .idle }, counters := s.counters.set 30 (saturate16 (s.counter .contestsLost) 1) }
      ∧ ∀ f rest, (s.tx.queue c).places = f :: rest → exec .contestWon s = .next { s with
          tx := { s.tx.setQueue c { s.tx.queue c with places := { f with
            inFlight := true
            body := if f.kind = .restate then some s.restateBody else if f.kind = .announce then some s.announceBody
              else f.body } :: rest } with state := .sending c }
          stop := if f.kind = .announce then
              { s.stop with fullColumn := decide (s.cfg.role = .axis) && s.actualHeight.isNone } else s.stop })
    ∧ ((∀ c, s.tx.state ≠ .contest c) → exec .contestLost s = .next s ∧ exec .contestWon s = .next s)

/-- ECHO_LOST: counted, no echo expected any more, the frame leaves its queue, and the frame is applied from its transmitted content:
whatever its kind, it does what its echo would have done at that moment (R32, R58, R151), and a SPACE frame is then a suspicion event. The
loss of a STATUS echo enters the report in the own entry. The clock moves to the due moment (the model's choice, assumption log 2). -/
def Obligations.EchoLostAppliesTheFrame : Prop :=
  ∀ s : State,
    (s.echoDue = none → exec .echoLost s = .next s)
    ∧ ∀ due c, s.echoDue = some (due, c) → s.oneInFlight = true → ∃ t, exec .echoLost s = .next t
      ∧ t.now = max s.now due ∧ t.cfg = s.cfg ∧ t.laneA = s.laneA ∧ t.laneB = s.laneB ∧ t.merger = s.merger
      ∧ t.counter .echoLost = saturate16 (s.counter .echoLost) 1
      ∧ t.tx.state = .idle ∧ t.tx.expected = none ∧ (∀ d, t.flying d = 0)
      ∧ (∀ f r e, s.inFlight c = some f → f.kind = .status → parseStatus (f.body.getD []) = some r →
          s.entry s.number = some e → (t.entry s.number).bind (·.lastStatus) = some r
          ∧ t.counter .suspicion = s.counter .suspicion ∧ t.claims = s.claims)
      ∧ (∀ f, s.inFlight c = some f → f.kind.cls = .space → parseBody f.kind s.number (f.body.getD []) ≠ none →
          t.counter .suspicion = saturate16 (s.counter .suspicion) 1 ∧ t.claims.view ≠ .sound)
      ∧ (∀ (f : TxFrame) (source : BitVec 7) (rank : BitVec 2) (body : List Byte), s.inFlight c = some f →
          s.tx.expected = some f.kind → s.dec.inbox = [] → s.dir.reportDue = false → s.stop.mode.onBus = true →
          source.toNat = s.number → stationInRange s.number = true → parseBody f.kind s.number (f.body.getD []) ≠ none →
          ∃ u, exec (AcceptedFrame.command ⟨f.kind, source, rank, body⟩) { s.advanceTo due with
              counters := s.counters.set 32 (saturate16 (s.counter .echoLost) 1) } = .next u
            ∧ t = if f.kind.cls = .space then u.suspicion else u)

/-- The timer rows where their timer does not run, where the condition is raised already, and at a station that takes no stop. That a row
without its timer leaves the state alone is the model's choice (assumption log 2). -/
def Obligations.TimersNotRunning : Prop :=
  (∀ (s : State) (due : Nat),
      let a := s.advanceTo due
      (s.missingDue = none → exec .feedbackMissing s = .next s)
      ∧ (s.loopDue = none → exec .loopOpening s = .next s ∧ exec .loopClosing s = .next s)
      ∧ (s.slipDue = none → exec .slippingBrake s = .next s)
      ∧ (s.brakeDue = none → exec .brakeTimeLimit s = .next s)
      ∧ (s.standstillLimit = none → exec .standstillTimeout s = .next s)
      ∧ (s.brakeDue = some due → s.exe.raised.brake = true →
          exec .brakeTimeLimit s = .next { a with exe := { a.exe with brakeSince := none } })
      ∧ (s.standstillLimit = some due → s.exe.raised.standstill = true →
          exec .standstillTimeout s = .next { a with exe := { a.exe with restSince := none } })
      ∧ (s.cfg.role = .desk ∨ s.stop.mode.onBus = false →
          (s.missingDue = some due → exec .feedbackMissing s = .next { a with
            drive := { a.drive with missing := true }
            counters := s.counters.set 17 (saturate16 (s.counter .feedbackMissing) 1) })
          ∧ (s.loopDue = some due → s.drive.loopClosed = true → s.drive.loopRaw = false → exec .loopOpening s = .next { a with
            drive := { a.drive with loopClosed := false, loopSince := none } })))
  ∧ (∀ s : State,
      (s.exe.motion ≠ .delaying ∨ s.stop.mode ≠ .active → exec .delayExpiry s = .next s)
      ∧ (s.waitDue = none → exec .waitExpired s = .next s)
      ∧ (s.standstillDue = none → exec .standstill s = .next s)
      ∧ (s.tripRestDue = none → exec .tripRestTimeout s = .next s))

/-- Standstill. From MOVING and from STOPPING for a release the brake is commanded and the executor settles; for a pause the brake is
commanded, or a new profile begins if the mode is ACTIVE again; for a hold it settles without a release to come. After a trip, standstill
or 1,000 ms without it queues the RELEASE, with the occupied band where the latest feedback is valid and at most 5 ms old, else with the
full column. The clock moves to the due moment (the model's choice, assumption log 2). HOLD at standstill and the timers after a trip are
assumption log 17 and 18. -/
def Obligations.StandstillAndTripRest : Prop :=
  (∀ (s : State) (due : Nat), s.standstillDue = some due →
      let a := s.advanceTo due
      let applies (m : Motion) (p : Purpose) : Prop := exec .standstill s = .next { a with
        exe := { a.exe with
          motion := m, purpose := some p, stage := .applying, brakeSince := some a.now, standSince := none, restSince := none }
        drive := { a.drive with brakeReq := false } }
      (s.exe.motion = .moving → applies .settling .release)
      ∧ (s.exe.motion = .stopping → s.exe.purpose = some .release → applies .settling .release)
      ∧ (s.exe.motion = .stopping → s.exe.purpose = some .hold → applies .settling .hold)
      ∧ (s.exe.motion = .stopping → s.exe.purpose = some .pause → s.stop.mode ≠ .active → applies .stopping .pause)
      ∧ (s.exe.motion = .stopping → s.exe.purpose = some .pause → s.stop.mode = .active →
          ∀ g p, s.exe.segment = some g → s.exe.setpoint = some p →
            let j := Trajectory.profile p g.target g.speed g.accel g.decel a.now
            exec .standstill s = .next { a with exe := { a.exe with
              motion := .moving, trajectory := some j, brakeSince := none, standSince := none, restSince := some j.restAt
              purpose := none, stage := .running } }))
  ∧ (∀ (s : State) (due : Nat), s.exe.motion = .settling → s.exe.stage = .tripped → s.stop.duplicate = false →
      s.exe.purpose ≠ some .hold → s.stop.mode.onBus = true →
      let now := max s.now due
      let band := match s.liveFeedback with
        | some f => if f.positionValid = true ∧ now ≤ f.arrival + 5000 then s.ownOccupied f.height else s.fullColumnBand
        | none => s.fullColumnBand
      let released (c : Instr) : Prop := ∃ t, exec c s = .next t ∧ t.now = now ∧ t.owesRelease band
        ∧ t.exe.motion = .settling ∧ t.exe.stage = .running ∧ t.exe.restSince = none ∧ t.exe.setpoint = s.exe.setpoint
        ∧ t.stop = s.stop ∧ t.drive = s.drive ∧ t.claims = s.claims ∧ t.cue = s.cue ∧ t.dir = s.dir ∧ t.free = s.free
      (s.standstillDue = some due → released .standstill) ∧ (s.tripRestDue = some due → released .tripRestTimeout))

/-- SILENCE of a station: its PRESENT entry becomes SILENT, counted, with DIRECTORY CHANGE. REPORT_PERIOD: the timer restarts; the STATUS
takes the free place, replaces an unsent one, or is due once the one in flight has left. The clock moves to the due moment (the model's
choice, assumption log 2). A replaced STATUS ends its contest (log 34); that one which a collision has made unsent again is replaced also
while the report-due mark is set, which stays set, is the model's choice (log 71). -/
def Obligations.DirectoryTimers : Prop :=
  (∀ (s : State) (n : BitVec 7),
      (∀ e, s.entry n.toNat = some e → e.present = true →
        exec (.silence n) s = .next { s.advanceTo (e.ageFrom + 1000 * s.cfg.silenceLimit) with
          dir := { s.dir with entries := s.dir.entries.map fun x => if x.number = n.toNat then { x with present := false } else x }
          counters := s.counters.set 6 (saturate16 (s.counter .silence) 1)
          port := { s.port with flags := s.port.flags ||| 0x0100 } })
      ∧ (s.entry n.toNat = none → exec (.silence n) s = .next s)
      ∧ (∀ e, s.entry n.toNat = some e → e.present = false → exec (.silence n) s = .next s))
  ∧ (∀ s : State,
      (s.dir.reportDueAt = none → exec .reportPeriod s = .next s)
      ∧ ∀ due, s.dir.reportDueAt = some due → s.stop.mode.onBus = true → s.stop.duplicate = false → s.tx.report.waiting = [] →
        let a := s.advanceTo due
        let dir : PeerDirectory := { s.dir with reportDueAt := some (due + 1000 * s.cfg.reportPeriod) }
        let report : TxFrame := ⟨.status, .reporter, some a.buildStatus.encode, false⟩
        (s.tx.report.places = [] → exec .reportPeriod s = .next { a with
          dir := dir, tx := { s.tx with report := ⟨[report], []⟩ } })
        ∧ (∀ f, s.tx.report.places = [f] → f.inFlight = false →
          exec .reportPeriod s = .next { a with
            dir := dir
            tx := { s.tx with
              report := ⟨[report], []⟩, state := if s.tx.state = .contest .report then .idle else s.tx.state }
            counters := s.counters.set 7 (saturate16 (s.counter .reportReplaced) 1) })
        ∧ (∀ f rest, s.tx.report.places = f :: rest → f.inFlight = true → exec .reportPeriod s = .next { a with
          dir := { dir with reportDue := true } }))

/-- FRAME_SENT: the echo of the frame in flight is expected from now on. COLLISION: the frame is unsent again at the head and a deferral
of 1 to 8 idles is drawn (a free value, assumption log 8). A row while no frame is being sent leaves the state as it is (the model's
choice, assumption log 5). Under the duplicate mark a collided SPACE or REPORT frame leaves its queue with every unsent one (log 28). -/
def Obligations.SentOrCollided : Prop :=
  (∀ s : State,
      (∀ (c : FrameClass) (f : TxFrame), s.tx.state = .sending c → s.inFlight c = some f → exec .frameSent s = .next { s with
        tx := { s.tx with state := .echoWait c, expected := some f.kind, echoSince := some s.now }
        counters := s.counters.set 29 (saturate16 (s.counter .framesSent) 1) })
      ∧ ((∀ c, s.tx.state ≠ .sending c) → exec .frameSent s = .next s ∧ exec .collision s = .next s))
  ∧ (∀ (s : State) (c : FrameClass) (f : TxFrame) (rest : List TxFrame), s.tx.state = .sending c → s.stop.duplicate = false →
      (s.tx.queue c).places = f :: rest → f.inFlight = true →
      ∃ k, 1 ≤ k ∧ k ≤ 8 ∧ exec .collision s = .next { s with
        free := s.free + 1
        tx := { s.tx.setQueue c { s.tx.queue c with places := { f with
          inFlight := false, body := if f.kind = .restate ∨ f.kind = .announce then none else f.body } :: rest } with
            state := .idle, deferral := k }
        counters := s.counters.set 31 (saturate16 (s.counter .busCollision) 1) })
  ∧ (∀ (s : State) (c : FrameClass) (f : TxFrame) (rest : List TxFrame), s.tx.state = .sending c → s.stop.duplicate = true →
      (s.tx.queue c).places = f :: rest → f.inFlight = true →
      ∃ t, exec .collision s = .next t ∧ (∀ g ∈ t.tx.space.frames ++ t.tx.report.frames, g.inFlight = true)
        ∧ t.tx.state = .idle ∧ t.tx.safe.frames.length = s.tx.safe.frames.length ∧ t.tx.cue.frames.length = s.tx.cue.frames.length
        ∧ t.counter .busCollision = saturate16 (s.counter .busCollision) 1
        ∧ 1 ≤ t.tx.deferral ∧ t.tx.deferral ≤ 8 ∧ t.stop = s.stop ∧ t.claims = s.claims)

/-! ### Lanes, receptions and the merger -/

/-- LANE_ACTIVE starts the activity timer of an idle lane and puts an idle receiver into LEAD; on a lane still active the timer runs on.
LEAD_ESTABLISHED marks the lead with the buffer empty. It opens a merge attempt when none is collecting; on a lane that has no reception
in the collecting attempt it joins that one; on a lane that has, the reception belongs to the next attempt, and a copy still held is
dropped as OVERRUN, recorded, while a reception that ended without a copy records none. LANE_ACTIVE and a lead on an active lane in IDLE
are assumption log 31, events without their cause log 5, and when the buffer is emptied is the model's choice (log 50). -/
def Obligations.LaneActivityAndLead : Prop :=
  (∀ (s : State) (l : Lane),
    exec (.laneActive l) s = .next (s.setLane l { s.lane l with
        activeSince := some ((s.lane l).activeSince.getD s.now)
        recv := if (s.lane l).recv = .idle ∧ (s.lane l).health ≠ .off then .lead else (s.lane l).recv })
    ∧ (s.leadPossible l = false → exec (.leadEstablished l) s = .next s)
    ∧ (s.leadPossible l = true → s.merger.collecting = none → ∃ a : Attempt,
        exec (.leadEstablished l) s = .next { s.setLane l { s.lane l with recv := .lead, leadUp := true, buffer := none } with
          merger := { s.merger with collecting := some a } }
        ∧ a.part l = ⟨true, false, false, none⟩ ∧ a.part (otherLane l) = ⟨false, false, false, none⟩
        ∧ a.firstCopy = none ∧ a.windowSince = none
        ∧ ∀ m, a.fixedDeciding m =
            if s.laneA.health = .good ∨ s.laneB.health = .good then decide ((s.lane m).health = .good)
            else decide ((s.lane m).health ≠ .off))
    ∧ (∀ a : Attempt, s.leadPossible l = true → s.merger.collecting = some a → a.windowSince = none →
        a.part l = ⟨false, false, false, none⟩ → (a.part (otherLane l)).copy = none →
        exec (.leadEstablished l) s = .next { s.setLane l { s.lane l with recv := .lead, leadUp := true, buffer := none } with
          merger := { s.merger with collecting := some (a.setPart l ⟨true, false, false, none⟩) } }))
  ∧ (∀ (s : State) (l : Lane) (a : Attempt), s.leadPossible l = true → s.merger.collecting = some a → a.windowSince ≠ none →
      (a.part l).lead = true → s.decides a (otherLane l) = true → (a.part (otherLane l)).ended = false →
      ∃ t, exec (.leadEstablished l) s = .next t ∧ t.now = s.now ∧ (t.lane l).recv = .lead ∧ (t.lane l).leadUp = true
        ∧ t.merger.nextPart l = ⟨true, false, false, none⟩
        ∧ t.merger.nextPart (otherLane l) = s.merger.nextPart (otherLane l) ∧ t.merger.tail = s.merger.tail
        ∧ (∀ c, (a.part l).copy = some c →
            t.merger.collecting = some (a.setPart l { a.part l with copy := none, overrun := true })
            ∧ (t.lane l).kindSet = (s.lane l).kindSet ||| 0x100
            ∧ (t.lane l).counts = (s.lane l).counts.set 8 (saturate8 (s.lane l).counts[8])
            ∧ ((s.lane l).kindSet.getLsbD 8 = false → t.flagSet .laneError = true))
        ∧ ((a.part l).copy = none → (s.merger.nextPart l).copy = none →
            t.merger.collecting = some a ∧ (t.lane l).kindSet = (s.lane l).kindSet ∧ (t.lane l).counts = (s.lane l).counts)
        ∧ t.lane (otherLane l) = s.lane (otherLane l) ∧ t.claims = s.claims ∧ t.dec = s.dec ∧ t.counters = s.counters
        ∧ t.stop = s.stop ∧ t.pending = s.pending)

/-- What every end of a reception leaves on its lane: no lead, the copy in the buffer, and each kind the reception found in the kind set;
`t` after. In BODY a lane that falls idle is SHORT, a stuffing fault SHORT or BODY BAD by its level, and a CRC that has been taken is judged
however the reception ends, by BABBLE too. That the bits come with the row that ends the reception is the model's choice (assumption log
11), and so is that the buffer keeps the copy (log 50), that the lead mode is the one of that row (log 66), that RECEPTION_END outside LEAD
and LANE_IDLE on an idle lane leave the state as it is (log 5), and that BABBLE without its timer does so and else moves the clock to its
due moment (log 2). -/
def Obligations.ReceptionsEnd : Prop :=
  (∀ (babble : Bool) (kinds : List LaneKind) (h : Header) (len : Nat) (last : Bool) (run : Nat) (rest : List Bool),
    let taken := destuff (8 * len + 16) last run [] rest
    let r := receiveBody babble kinds h len last run rest
    let cut : Prop := r.copy = some ⟨some h, [], false, true⟩ ∧ r.inTrail = true
    (taken = .ranOut → cut ∧ r.kinds = if babble then kinds else kinds ++ [.short])
    ∧ (∀ level left, taken = .stuffing level left → cut ∧ (if level then .short else .bodyBad) ∈ r.kinds)
    ∧ (∀ got last' run' left, taken = .bits got last' run' left →
        natOfBits (got.drop (8 * len)) ≠ (bodyCrc (bytesOfBits len got)).toNat →
        .bodyBad ∈ r.kinds ∧ ∃ c, r.copy = some c ∧ c.header = some h ∧ c.bad = true))
  ∧ ∀ (s : State) (l : Lane) (bits : List Bool),
    let kept (t : State) : Prop := t.free = s.free ∧ t.cfg = s.cfg ∧ t.stop = s.stop ∧ t.dir = s.dir ∧ t.exe.motion = s.exe.motion
      ∧ t.exe.setpoint = s.exe.setpoint ∧ t.drive = s.drive ∧ t.claims.table = s.claims.table ∧ t.cue = s.cue
      ∧ t.pending = s.pending
    let found (t : State) (kinds : List LaneKind) : Prop := ∀ k ∈ kinds, (t.lane l).kindSet.getLsbD k.number = true
    ((s.lane l).recv ≠ .lead → exec (.receptionEnd l bits) s = .next s)
    ∧ ((s.lane l).recv = .lead → ∃ t, exec (.receptionEnd l bits) s = .next t ∧ t.now = s.now ∧ kept t
        ∧ (t.lane l).recv = (if (receive s.lenient false bits).inTrail then .trail else .idle) ∧ (t.lane l).leadUp = false
        ∧ (t.lane l).activeSince = (s.lane l).activeSince ∧ found t (receive s.lenient false bits).kinds
        ∧ (t.lane l).buffer = (receive s.lenient false bits).copy)
    ∧ ((s.lane l).activeSince = none → exec (.laneIdle l bits) s = .next s)
    ∧ ((s.lane l).activeSince ≠ none → ∃ t, exec (.laneIdle l bits) s = .next t ∧ t.now = s.now ∧ kept t
        ∧ (t.lane l).recv = .idle ∧ (t.lane l).activeSince = none ∧ (t.lane l).babble = false
        ∧ ((s.lane l).recv = .lead → (t.lane l).leadUp = false ∧ found t (receive s.lenient false bits).kinds))
    ∧ (s.babbleDue l = none → exec (.babble l bits) s = .next s)
    ∧ (∀ due, s.babbleDue l = some due → ∃ t, exec (.babble l bits) s = .next t ∧ t.now = max s.now due ∧ kept t
        ∧ (t.lane l).recv = .trail ∧ (t.lane l).babble = true ∧ (t.lane l).activeSince = (s.lane l).activeSince
        ∧ found t [.babble]
        ∧ ((s.lane l).recv = .lead → (t.lane l).leadUp = false ∧ found t (receive s.lenient true bits).kinds))

/-- An attempt whose two lanes decide is settled by its two copies: identical clean copies are accepted, a clean copy beats one that is
not, and two clean copies that differ are a DISAGREE. The second of two such copies hands the frame to the decoder. The whole bits and the
inbox are the model's (assumption log 4, 11), the deciding lanes log 12. -/
def Obligations.TwoLanesDecide : Prop :=
  (∀ (p q : LanePart) (c d : Copy), p.copy = some c → q.copy = some d →
    (decideTwo p q).accepted =
        (if c.clean then if d.clean then if c.same d then some c else none else some c else if d.clean then some d else none)
    ∧ ((decideTwo p q).disagree = true ↔ c.clean = true ∧ d.clean = true ∧ c.same d = false)
    ∧ (decideTwo p q).missing = [])
  ∧ (∀ (p q : LanePart) (c : Copy), p.copy = some c → q.copy = none →
    (decideTwo p q).accepted = (if c.clean then some c else none) ∧ (decideTwo q p).accepted = (if c.clean then some c else none)
    ∧ (decideTwo p q).missing = (if q.overrun then [] else [.b]) ∧ (decideTwo q p).missing = (if q.overrun then [] else [.a]))
  ∧ ∀ (s : State) (l : Lane) (bits : List Bool) (a : Attempt) (c d : Copy) (h : Header) (k : Kind),
    s.stop.mode.onBus = true → (s.lane l).recv = .lead → (s.lane l).leadUp = true →
    s.laneA.babble = false → s.laneB.babble = false →
    s.merger.collecting = some a → a.decidingA = true → a.decidingB = true → a.windowSince ≠ none →
    (a.part (otherLane l)).ended = true → (a.part (otherLane l)).copy = some c → c.clean = true →
    a.part l = ⟨true, false, false, none⟩ → (receive s.lenient false bits).copy = some d → d.clean = true → c.same d = true →
    s.merger.nextA = LanePart.empty → s.merger.nextB = LanePart.empty → c.header = some h → h.filed = some k →
    ∃ t, exec (.receptionEnd l bits) s = .next t
      ∧ t.dec = { s.dec with inbox := s.dec.inbox ++ [some ⟨k, h.source, h.rank, c.body⟩] }
      ∧ t.counter .accepted = saturate16 (s.counter .accepted) 1 ∧ t.counter .discarded = s.counter .discarded
      ∧ t.merger.collecting = none

/-- SKEW_WINDOW_EXPIRY decides the collecting attempt by its deciding lanes and TAIL_EXPIRY closes the tail; neither means anything while
its timer does not run. The clock moves to the due moment (the model's choice, assumption log 2), the accepted frame waits in the inbox, a
misfiled one among them (log 4), how a babbling lane and an attempt with no lane left decide is log 12, and that there is no tail after the
window's end is log 13. -/
def Obligations.MergerTimers : Prop :=
  ∀ s : State,
    (s.skewDue = none → exec .skewWindowExpiry s = .next s)
    ∧ (s.merger.tail = none → exec .tailExpiry s = .next s)
    ∧ (∀ due a, s.skewDue = some (due, a) → s.merger.nextA = LanePart.empty → s.merger.nextB = LanePart.empty →
        let d := s.outcome a
        ∃ t, exec .skewWindowExpiry s = .next t ∧ t.now = max s.now due ∧ t.merger.collecting = none
          ∧ t.counter .accepted = (if d.accepted.isSome then saturate16 (s.counter .accepted) 1 else s.counter .accepted)
          ∧ t.counter .discarded = (if d.accepted.isSome then s.counter .discarded else saturate16 (s.counter .discarded) 1)
          ∧ t.counter .disagree = (if d.disagree then saturate16 (s.counter .disagree) 1 else s.counter .disagree)
          ∧ (d.accepted = none → t.dec = s.dec)
          ∧ (∀ c h k, d.accepted = some c → c.header = some h → h.filed = some k → s.stop.mode.onBus = true →
              t.dec = { s.dec with inbox := s.dec.inbox ++ [some ⟨k, h.source, h.rank, c.body⟩] })
          ∧ (∀ c h, d.accepted = some c → c.header = some h → h.filed = none → s.stop.mode.onBus = true →
              (s.dec.inbox = [] → t.dec = { s.dec with lastCode := .misfiled, lastCue := none })
              ∧ (s.misfiledNext = false → s.dec.inbox ≠ [] → t.dec = { s.dec with inbox := s.dec.inbox ++ [none] }))
          ∧ t.stop = s.stop ∧ t.dir = s.dir ∧ t.cue = s.cue ∧ t.drive = s.drive ∧ t.claims.table = s.claims.table
          ∧ t.cfg = s.cfg ∧ t.free = s.free ∧ t.pending = s.pending)
    ∧ (∀ tail, s.merger.tail = some tail → ∃ t, exec .tailExpiry s = .next t ∧ t.now = max s.now (tail.since + 4)
        ∧ t.merger = { s.merger with tail := none }
        ∧ (∀ l, (t.lane l).recv = (s.lane l).recv ∧ (t.lane l).kindSet = (s.lane l).kindSet
            ∧ (t.lane l).activeSince = (s.lane l).activeSince ∧ ((t.lane l).health = .off ↔ (s.lane l).health = .off))
        ∧ t.stop = s.stop ∧ t.dir = s.dir ∧ t.cue = s.cue ∧ t.drive = s.drive ∧ t.claims = s.claims ∧ t.dec = s.dec ∧ t.tx = s.tx
        ∧ t.counters = s.counters ∧ t.cfg = s.cfg ∧ t.free = s.free ∧ t.pending = s.pending)

/-- Lane health at the close of an attempt, by the tail's end and by the window's: the bad run of a GOOD lane grows only while the other
lane's copy is clean, and the eighth makes it DEGRADED; the clean run of a DEGRADED lane grows with each copy identical to an accepted
frame, and the sixteenth makes it GOOD; each change sets LANE ERROR. The window's end leaves the sync snapshot of a MISSING or a DISAGREE,
and reports a discard as a suspicion where no deciding copy shows a readable header or one shows SPACE. An OFF lane stays OFF with its
error record as it stood. The deciding lanes are assumption log 12; a lane turned OFF while its attempt collects, and the window's end
without a tail, log 13. -/
def Obligations.LaneHealthAndSnapshot : Prop :=
  let closes (s t : State) (a : Attempt) (accepted : Option Copy) : Prop := ∀ l,
    let r := s.lane l
    let mine := (a.part l).cleanCopy
    let theirs := (a.part (otherLane l)).cleanCopy = true ∧ (s.lane (otherLane l)).health ≠ .off
    let runs (h : Health) (bad clean : Nat) : Prop :=
      (t.lane l).health = h ∧ (t.lane l).badRun = bad ∧ (t.lane l).cleanRun = clean
    (r.health = .good →
      (mine = true → runs .good 0 r.cleanRun)
      ∧ (mine = false → theirs → r.badRun < 7 → runs .good (r.badRun + 1) r.cleanRun)
      ∧ (mine = false → theirs → 7 ≤ r.badRun → runs .degraded 0 0 ∧ t.flagSet .laneError = true)
      ∧ (mine = false → ¬theirs → runs .good r.badRun r.cleanRun))
    ∧ (r.health = .degraded →
      (accepted = none → runs .degraded r.badRun r.cleanRun)
      ∧ ∀ c, accepted = some c →
        ((∃ d, (a.part l).copy = some d ∧ d.clean = true ∧ d.header = c.header ∧ d.body = c.body) →
          (r.cleanRun < 15 → runs .degraded r.badRun (r.cleanRun + 1))
          ∧ (15 ≤ r.cleanRun → runs .good 0 0 ∧ t.flagSet .laneError = true))
        ∧ ((∀ d, (a.part l).copy = some d → d.clean = true → d.header = c.header → d.body ≠ c.body) →
          runs .degraded r.badRun 0))
    ∧ (r.health = .off → runs .off r.badRun r.cleanRun)
  (∀ (s : State) (tail : Tail), s.merger.tail = some tail →
      ∃ t, exec .tailExpiry s = .next t ∧ closes s t tail.attempt tail.accepted)
  ∧ (∀ (s : State) (due : Nat) (a : Attempt), s.skewDue = some (due, a) →
      s.merger.nextA = LanePart.empty → s.merger.nextB = LanePart.empty →
      ∃ t, exec .skewWindowExpiry s = .next t ∧ closes s t a (s.outcome a).accepted
        ∧ (∀ l c, s.decides a .a = true → s.decides a .b = true → (a.part l).copy = some c →
            (a.part (otherLane l)).copy = none → (a.part (otherLane l)).overrun = false →
            (s.lane (otherLane l)).health ≠ .off →
            (t.lane (otherLane l)).kindSet = (s.lane (otherLane l)).kindSet ||| 0x200
            ∧ t.merger.snapshot = some
              ⟨if l = .a then .missingOnB else .missingOnA, a.partA.lead, a.partB.lead, a.partA.cleanCopy, a.partB.cleanCopy,
                c.header.map (·.source.toNat)⟩)
        ∧ (∀ c d hc hd, s.decides a .a = true → s.decides a .b = true → a.partA.copy = some c → a.partB.copy = some d →
            c.clean = true → d.clean = true → c.same d = false → c.header = some hc → d.header = some hd →
            (t.laneA.kindSet = s.laneA.kindSet ∧ t.laneB.kindSet = s.laneB.kindSet)
            ∧ t.merger.snapshot = some ⟨.disagree, a.partA.lead, a.partB.lead, true, true,
                some (if a.firstCopy = some .b then hd.source.toNat else hc.source.toNat)⟩)
        ∧ (∀ c d, a.partA.copy = some c → a.partB.copy = some d → c.clean = false ∨ d.clean = false ∨ c.same d = true →
            t.merger.snapshot = s.merger.snapshot)
        ∧ ((s.outcome a).accepted = none →
            let shows (h : Header) : Prop := ∃ l c, s.decides a l = true ∧ (a.part l).copy = some c ∧ c.header = some h
            let suspect : Prop := s.stop.mode.onBus = true ∧ ((∀ h, ¬shows h) ∨ ∃ h, shows h ∧ h.cls = 1)
            (suspect → t.counter .suspicion = saturate16 (s.counter .suspicion) 1
              ∧ t.claims = { s.claims with view := if s.claims.view = .sound then .suspect else s.claims.view })
            ∧ (¬suspect → t.counter .suspicion = s.counter .suspicion ∧ t.claims = s.claims)))
  ∧ (∀ (c : Instr) (s t : State) (l : Lane), c.wellFormed = true → c.isReset = false → c ≠ .clearCounters →
      (∀ addr, c ≠ .laneKindSetRead addr) → exec c s = .next t → (s.lane l).health = .off → (s.lane l).recv = .idle →
      (t.lane l).health = .off ∧ (t.lane l).recv = .idle ∧ (t.lane l).kindSet = (s.lane l).kindSet
        ∧ (t.lane l).counts = (s.lane l).counts)

/-- The header check corrects any one wrong bit of the thirty and detects any two. -/
def Obligations.HeaderCheckCorrectsOneDetectsTwo : Prop :=
  ∀ head : List Bool, head.length = 22 →
    let sent := head ++ bitsOf 8 (xorColumns headerColumns head)
    judgeHeader sent = some (sent, false)
    ∧ (∀ i, i < 30 → judgeHeader (flipAt i sent) = some (sent, true))
    ∧ ∀ i j, i < j → j < 30 → judgeHeader (flipAt i (flipAt j sent)) = none

/-- A frame's bits as they are sent, received without a fault under either lead mode, are the frame: a clean copy with the header and body
that were sent, no kind recorded, and the receiver in IDLE. The bits as a whole are the model's form (assumption log 11). -/
def Obligations.ReceivedFrameIsTheSentFrame : Prop :=
  ∀ (lenient : Bool) (cls : FrameClass) (source kind rank : Nat) (body : List Byte),
    source < 128 → kind < 16 → rank < 4 → body.length ≤ 96 →
    receive lenient false (bitsTaken (frameBits cls.code source kind rank body)) =
      ⟨[], some ⟨some ⟨BitVec.ofNat 2 cls.code, BitVec.ofNat 7 source, BitVec.ofNat 4 kind, BitVec.ofNat 2 rank⟩, body, true, false⟩,
        false⟩

/-- What a station has understood of a body it sends so that it is understood again: the encoder of R138 undoes the form check of R139 for
every kind. -/
def Obligations.ParsedBodiesEncodeBack : Prop :=
  ∀ (k : Kind) (source : Nat) (body : List Byte) (c : Content),
    parseBody k source body = some c → parseBody k source c.encode = some c

/-! ### Frames from peers -/

/-- A frame row of every kind: discarded off the bus, refused MISFILED for a source that is no station number, and refused MISFILED with
MALFORMED counted for a body that fails its form check. Misfiled frames accepted before it are taken before it, each refused MISFILED with
no cue number, and off the bus without a record. The inbox is the model's form (assumption log 4), the cue number recorded log 33. -/
def Obligations.FramesNotTaken : Prop :=
  ∀ (s : State) (f : AcceptedFrame),
    let s₀ := s.takenFromInbox f
    let ahead := (s.dec.inbox.takeWhile Option.isNone).length
    let left := s.dec.inbox.dropWhile Option.isNone
    exec f.command s = exec f.command s.discardMisfiled
    ∧ (s.stop.mode.onBus = false ∨ ahead = 0 → s.discardMisfiled = { s with dec := { s.dec with inbox := left } })
    ∧ (s.stop.mode.onBus = true → 0 < ahead → s.discardMisfiled = { s with
        dec := { s.dec with lastCode := .misfiled, lastCue := none, inbox := left }
        counters := s.counters.set 25 (saturate16 (s.counter .misfiled) ahead)
        port := { s.port with flags := s.port.flags ||| 0x0008 } })
    ∧ (s.misfiledNext = true ↔ 0 < ahead)
    ∧ (s.misfiledNext = false → s.stop.mode.onBus = false → exec f.command s = .next s₀)
    ∧ (s.misfiledNext = false → s.stop.mode.onBus = true → stationInRange f.source.toNat = false → exec f.command s = .next { s₀ with
        dec := { s₀.dec with lastCode := .misfiled, lastCue := none }
        counters := s.counters.set 25 (saturate16 (s.counter .misfiled) 1)
        port := { s.port with flags := s.port.flags ||| 0x0008 } })
    ∧ (s.hears f.source = true → parseBody f.kind f.source.toNat f.body = none → exec f.command s = .next { s₀ with
        dec := { s₀.dec with lastCode := .misfiled, lastCue := carriedCue f.kind f.body }
        counters := (s.counters.set 28 (saturate16 (s.counter .malformed) 1)).set 25 (saturate16 (s.counter .misfiled) 1)
        port := { s.port with flags := s.port.flags ||| 0x0008 } })
    ∧ (s₀ = { s with dec := { s.dec with
        inbox := if s.dec.inbox.head? = some (some f) then s.dec.inbox.tail else s.dec.inbox } })

/-- HALT: in ACTIVE the mode becomes HALTED and a load under way begins its deceleration with purpose PAUSE, from the setpoint and the
exact profile speed at that moment at the stop deceleration; elsewhere it is counted SAFE IGNORED; one that does not select the station,
and any at a DESK, has no effect. -/
def Obligations.HaltFromAPeer : Prop :=
  ∀ (s : State) (source : BitVec 7) (rank : BitVec 2) (body : List Byte) (sel : Selector) (cause : SafeCause),
    s.hears source = true → parseBody .halt source.toNat body = some (.safe sel cause) →
    let s₀ := s.takenFromInbox ⟨.halt, source, rank, body⟩
    let h : State := { s₀ with stop := { s.stop with mode := .halted }, port := { s.port with flags := s.port.flags ||| 0x0001 } }
    (s.cfg.role = .desk ∨ s.selects sel = false → exec (.halt source rank body) s = .next s₀)
    ∧ (s.cfg.role = .axis → s.selects sel = true →
      (s.stop.mode ≠ .active → exec (.halt source rank body) s = .next { s₀ with
        counters := s.counters.set 12 (saturate16 (s.counter .safeIgnored) 1) })
      ∧ (s.stop.mode = .active → s.exe.motion ≠ .unbraking → s.exe.motion ≠ .moving →
        exec (.halt source rank body) s = .next h)
      ∧ (s.stop.mode = .active → s.exe.motion = .unbraking ∨ s.exe.motion = .moving → ∀ g p, s.exe.segment = some g →
        s.exe.setpoint = some p → ∃ v k, (s.exe.motion = .unbraking → v = Speed.rest)
          ∧ (∀ j, s.exe.motion = .moving → s.exe.trajectory = some j → v = j.exactSpeed s.now)
          ∧ k = Trajectory.deceleration p g.target v s.cfg.stopDecel s.now
          ∧ exec (.halt source rank body) s = .next { h with
            exe := { s.exe with
              motion := .stopping, trajectory := some k, brakeSince := none, standSince := none, restSince := some k.restAt
              purpose := some .pause, stage := .running } }))

/-- STOP at an AXIS it selects: STOPPED with the record of the episode (one further cause in STOPPED), a started head frozen, and the
executor's column; from any source and whatever the rank. A claim that is waited for is given up: an unsent CLAIM leaves the queue and
ends it, a sent one is followed by a WITHDRAW whose echo is awaited, and one given up before queues nothing more. In a pause that applies
its brake, assumption log 15; the pre-move band from UNBRAKING, log 16; that an idle executor holds no profile start height, log 62. -/
def Obligations.StopFromAPeer : Prop :=
  ∀ (s : State) (source : BitVec 7) (rank : BitVec 2) (body : List Byte) (sel : Selector) (cause : SafeCause),
    s.hears source = true → parseBody .stop source.toNat body = some (.safe sel cause) →
    (s.cfg.role = .desk ∨ s.selects sel = false →
      exec (.stop source rank body) s = .next (s.takenFromInbox ⟨.stop, source, rank, body⟩))
    ∧ (s.cfg.role = .axis → s.selects sel = true → ∃ t, exec (.stop source rank body) s = .next t
      ∧ t.stop = { s.stop with mode := .stopped, record := s.recordAfter cause.stopCause (some source.toNat) }
      ∧ (s.stop.mode ≠ .stopped → t.port.flags &&& 0x0003 = 0x0003)
      ∧ s.freezesHead t
      ∧ (s.exe.motion = .idle → t.exe = s.exe)
      ∧ s.bringsToRest t
      ∧ (s.stopPurpose = if s.stop.duplicate = true ∨ s.exe.purpose = some .hold then .hold else .release)
      ∧ t.now = s.now ∧ t.cfg = s.cfg ∧ t.claims = s.claims ∧ t.dir = s.dir ∧ t.laneA = s.laneA ∧ t.laneB = s.laneB
      ∧ t.merger = s.merger ∧ t.pending = s.pending)

/-- CLEAR at an AXIS it selects: the tests of source, role and rank, then by mode; in STOPPED the plant, the loop, the duplicate mark and
the join stage decide. In HALTED a claim that is HELD already unbrakes, or settles at once where the load stands at the target. The
filtered loop state is read (assumption log 14). -/
def Obligations.ClearFromAPeer : Prop :=
  ∀ (s : State) (source : BitVec 7) (rank : BitVec 2) (body : List Byte) (sel : Selector) (cause : SafeCause),
    s.hears source = true → parseBody .clear source.toNat body = some (.safe sel cause) →
    let s₀ := s.takenFromInbox ⟨.clear, source, rank, body⟩
    let clears (t : State) : Prop := exec (.clear source rank body) s = .next t
    (s.cfg.role = .desk ∨ s.selects sel = false → clears s₀)
    ∧ (s.cfg.role = .axis → s.selects sel = true →
      (s.entry source.toNat = none → clears (s₀.refuse .unknownSource none))
      ∧ ∀ e, s.entry source.toNat = some e →
        (e.record.role = .axis → clears (s₀.refuse .role none))
        ∧ (e.record.role = .desk → s.cfg.clearRankLimit < rank.toNat → clears (s₀.refuse .authority none))
        ∧ (e.record.role = .desk → rank.toNat ≤ s.cfg.clearRankLimit →
          (s.stop.mode = .joining ∨ s.stop.mode = .active → clears (s₀.bump .safeIgnored))
          ∧ (s.stop.mode = .stopped →
            (s.drive.loopClosed = true ∧ s.plantReady = true ∧ s.stop.duplicate = false ∧ s.stop.joinStage = .joined →
              clears { s₀ with
                stop := { s.stop with mode := .active }, port := { s.port with flags := s.port.flags ||| 0x0001 } })
            ∧ (¬(s.drive.loopClosed = true ∧ s.plantReady = true ∧ s.stop.duplicate = false ∧ s.stop.joinStage = .joined) →
              clears (s₀.refuse .notReady none)))
          ∧ (s.stop.mode = .halted →
            let a : State := { s₀ with
              stop := { s.stop with mode := .active }, port := { s.port with flags := s.port.flags ||| 0x0001 } }
            (s.exe.motion ≠ .gated → s.exe.motion ≠ .claiming → s.exe.motion ≠ .paused → clears a)
            ∧ (s.exe.motion = .paused → clears { a with
                exe := { s.exe with motion := .unbraking, brakeSince := some s.now, standSince := none, restSince := none }
                drive := { s.drive with torqueReq := true, brakeReq := true } })
            ∧ (s.exe.motion = .claiming → (∀ c, s.ownSweep = some c → c.isHeld = false) → clears a)
            ∧ (∀ c g start, s.exe.motion = .claiming → s.exe.awaiting = .nothing → s.exe.waitSince = none →
                s.ownSweep = some c → c.isHeld = true → s.exe.segment = some g → s.exe.startHeight = some start →
                (start ≠ g.target → clears { a with
                  exe := { s.exe with
                    motion := .unbraking, setpoint := some start, brakeSince := some s.now, standSince := none, restSince := none }
                  drive := { s.drive with torqueReq := true, brakeReq := true } })
                ∧ (start = g.target → s.stop.duplicate = false → ∃ t, clears t ∧ t.stop = a.stop ∧ t.claims = s.claims
                    ∧ t.exe.motion = .settling ∧ t.exe.setpoint = none ∧ t.drive = s.drive ∧ t.owesRelease s.standingBand))
            ∧ (s.exe.motion = .gated ∨ s.exe.motion = .claiming → ∃ t, clears t ∧ t.stop = a.stop ∧ t.claims = s.claims))))

/-- ANNOUNCE and RESTATE of an AXIS peer with room for it: the record and the listed claims replace the peer's, one pass follows a change
of the table, CLAIMS CHANGE is set where the evaluation has changed it, and an ANNOUNCE is answered with a RESTATE. Where the table has no
room for the claims it stays, TABLE FULL is counted and the view becomes BLIND, as it does without a place for the peer. What counts as a
change of the table is assumption log 21. -/
def Obligations.RecordsFromAPeer : Prop :=
  ∀ (s : State) (restates : Bool) (source : BitVec 7) (rank : BitVec 2) (body : List Byte) (r : DirRecord) (cs : List ClaimRecord),
    let kind : Kind := if restates then .restate else .announce
    let c : Instr := if restates then .restate source rank body else .announce source rank body
    let n := source.toNat
    s.hears source = true → parseBody kind n body = some (.announce r cs) →
    (s.canEnter n = true → ∃ t, exec c s = .next t
      ∧ (∀ e, s.entry n = some e → t.entry n = some { e with
          record := r, present := true, ageFrom := s.now, lastStatus := if restates then e.lastStatus else none })
      ∧ (s.entry n = none → t.dir.entries = s.dir.entries ++ [⟨n, r, true, none, s.now⟩])
      ∧ (∀ m, m ≠ n → t.entry m = s.entry m)
      ∧ (r.role = .axis → Table.hasRoom s.claims.table (ownedBy n) cs.length = true →
          let u := cs.foldl (fun u x => Table.enter u (x.claim n)) (Table.remove s.claims.table (ownedBy n))
          t.claims = { s.claims with table := if Table.sameClaims s.claims.table u then u else Table.pass t.conflict u }
          ∧ t.flagSet .claimsChange = (s.flagSet .claimsChange || !Table.sameClaims s.claims.table t.claims.table)
          ∧ t.flagSet .directoryChange = true)
      ∧ (r.role = .axis → Table.hasRoom s.claims.table (ownedBy n) cs.length = false →
          t.claims = { s.claims with view := .blind } ∧ t.counter .tableFull = saturate16 (s.counter .tableFull) 1
          ∧ t.flagSet .claimsChange = s.flagSet .claimsChange ∧ t.stop = s.stop ∧ t.exe = s.exe ∧ t.cue = s.cue)
      ∧ (r.role = .desk → cs ≠ [] → t.dec.lastCode = .role ∧ t.dec.lastCue = none)
      ∧ (restates = false → s.stop.duplicate = false → t.hasQueued .restate = true)
      ∧ t.now = s.now ∧ t.cfg = s.cfg ∧ t.laneA = s.laneA ∧ t.laneB = s.laneB ∧ t.merger = s.merger ∧ t.pending = s.pending)
    ∧ (s.canEnter n = false → ∃ t, exec c s = .next t ∧ t.claims = { s.claims with view := .blind } ∧ t.dir = s.dir
      ∧ t.counter .directoryFull = saturate16 (s.counter .directoryFull) 1 ∧ t.stop = s.stop ∧ t.exe = s.exe ∧ t.cue = s.cue)

/-- RESTATE_REQUEST: an unsent request of the own leaves, the window begins in SUSPECT, and a RESTATE is queued. From a station with no
entry it is, outside JOINING, a suspicion event first, which in SOUND makes the view SUSPECT and queues no request of the own. What
becomes of the request that a suspicion queues in SUSPECT is assumption log 46. -/
def Obligations.RequestFromAPeer : Prop :=
  (∀ (s : State) (source : BitVec 7) (rank : BitVec 2) (e : Entry), s.hears source = true → s.entry source.toNat = some e →
    ∃ t, exec (.restateRequest source rank []) s = .next t
      ∧ t.hasUnsent .space (·.kind == .restateRequest) = false
      ∧ (s.stop.duplicate = false → t.hasQueued .restate = true)
      ∧ (s.claims.view = .suspect → t.claims = { s.claims with
          table := s.claims.table.map fun (i, c) => (i, { c with confirmed := false }), windowSince := some s.now })
      ∧ (s.claims.view ≠ .suspect → t.claims = s.claims)
      ∧ t.now = s.now ∧ t.free = s.free ∧ t.cfg = s.cfg ∧ t.stop = s.stop ∧ t.dir = s.dir ∧ t.cue = s.cue ∧ t.exe = s.exe
      ∧ t.drive = s.drive ∧ t.counters = s.counters ∧ t.pending = s.pending)
  ∧ ∀ (s : State) (source : BitVec 7) (rank : BitVec 2), s.hears source = true → s.entry source.toNat = none →
    ∃ t, exec (.restateRequest source rank []) s = .next t
      ∧ t.counter .suspicion = (if s.stop.mode = .joining then s.counter .suspicion else saturate16 (s.counter .suspicion) 1)
      ∧ t.hasUnsent .space (·.kind == .restateRequest) = false
      ∧ (s.stop.duplicate = false → t.hasQueued .restate = true)
      ∧ (s.claims.view = .suspect ∨ s.claims.view = .sound ∧ s.stop.mode ≠ .joining → t.claims = { s.claims with
          view := .suspect, table := s.claims.table.map fun (i, c) => (i, { c with confirmed := false })
          windowSince := some s.now })
      ∧ (s.claims.view = .blind ∨ s.claims.view = .sound ∧ s.stop.mode = .joining → t.claims = s.claims)
      ∧ t.now = s.now ∧ t.free = s.free ∧ t.cfg = s.cfg ∧ t.stop = s.stop ∧ t.dir = s.dir ∧ t.cue = s.cue ∧ t.exe = s.exe
      ∧ t.drive = s.drive ∧ t.pending = s.pending

/-- CLAIM, TRIM, RELEASE and WITHDRAW of a known AXIS peer: the table after each is its entry into the table, followed by one promotion
pass where that changed it; CLAIMS CHANGE is set where the evaluation has changed the table in more than confirmed marks, and at a DESK
nothing else changes. What counts as a change of the table is assumption log 21. -/
def Obligations.ReservationsFromAPeer : Prop :=
  ∀ (s : State) (source : BitVec 7) (rank : BitVec 2) (body : List Byte) (e : Entry),
    let n := source.toNat
    s.hears source = true → s.entry n = some e → e.record.role = .axis →
    let T := s.claims.table
    let changes (c : Instr) (k : Kind) (u : Table) : Prop := ∃ t, exec c s = .next t
      ∧ t.claims = { s.claims with table := if Table.sameClaims T u then u else Table.pass s.conflict u }
      ∧ t.flagSet .claimsChange = (s.flagSet .claimsChange || !Table.sameClaims T t.claims.table)
      ∧ (s.cfg.role = .desk → t = { s.takenFromInbox ⟨k, source, rank, body⟩ with
          claims := t.claims
          port := { s.port with
            flags := if Table.sameClaims T t.claims.table then s.port.flags else s.port.flags ||| 0x0200 } })
      ∧ t.now = s.now ∧ t.cfg = s.cfg ∧ t.dir = s.dir ∧ t.laneA = s.laneA ∧ t.laneB = s.laneB ∧ t.merger = s.merger
      ∧ t.pending = s.pending
    let narrowed (vertical : Band) : Table := T.map fun (i, d) =>
      (i, if d.owner = n ∧ d.isSweep = true then { d with vertical := vertical, confirmed := true } else d)
    (∀ depth vertical p cue index, parseBody .claim n body = some (.claim depth vertical p cue index) →
      Table.hasRoom T (sweepOwned n) 1 = true →
      let c : Claim := ⟨n, .sweep .waiting p cue index, depth, vertical, true⟩
      let u := Table.remove T (sweepOwned n)
      changes (.claim source rank body) .claim (if Table.eligible s.conflict u c then
        Table.remove (Table.enter u { c with form := .sweep .held p cue index }) fun d => d.owner == n && !d.isSweep
        else Table.enter u c))
    ∧ (∀ depth vertical, parseBody .release n body = some (.release depth vertical) → Table.hasRoom T (ownedBy n) 1 = true →
      changes (.release source rank body) .release
        (Table.enter (Table.remove T (ownedBy n)) ⟨n, .standing, depth, vertical, true⟩))
    ∧ (body = [] →
      (∀ c, Table.sweepOf T n = some c → changes (.withdraw source rank body) .withdraw (Table.remove T (sweepOwned n)))
      ∧ (Table.sweepOf T n = none →
        exec (.withdraw source rank body) s = .next (s.takenFromInbox ⟨.withdraw, source, rank, body⟩)))
    ∧ (∀ cue index vertical, parseBody .trim n body = some (.trim cue index vertical) →
      (∀ c p, Table.sweepOf T n = some c → c.form = .sweep .held p cue index → vertical.inside c.vertical = true →
        changes (.trim source rank body) .trim (narrowed vertical)
          ∧ (vertical ≠ c.vertical → Table.sameClaims T (narrowed vertical) = false))
      ∧ (∀ c p, Table.sweepOf T n = some c → c.form = .sweep .held p cue index → vertical = c.vertical → s.tableOk = true →
        vertical.inside c.vertical = true → exec (.trim source rank body) s = .next
          { s.takenFromInbox ⟨.trim, source, rank, body⟩ with claims := { s.claims with table := narrowed vertical } })
      ∧ ((∀ c p, Table.sweepOf T n = some c → c.form = .sweep .held p cue index → vertical.inside c.vertical = false) →
        exec (.trim source rank body) s = .next
          ((s.takenFromInbox ⟨.trim, source, rank, body⟩).bump .trimRejected)))
    ∧ ∀ t u : Table, Table.sameClaims t u = true ↔
        t.map (fun (i, c) => (i, { c with confirmed := false })) = u.map fun (i, c) => (i, { c with confirmed := false })

/-- CLAIM, TRIM, RELEASE and WITHDRAW from a station that is no AXIS peer, and a CLAIM or RELEASE for which the table has no room. -/
def Obligations.ReservationsRefused : Prop :=
  ∀ (s : State) (source : BitVec 7) (rank : BitVec 2) (body : List Byte) (k : Kind) (c : Content) (i : Instr),
    let s₀ := s.takenFromInbox ⟨k, source, rank, body⟩
    (k = .claim ∧ i = .claim source rank body) ∨ (k = .trim ∧ i = .trim source rank body)
      ∨ (k = .release ∧ i = .release source rank body) ∨ (k = .withdraw ∧ i = .withdraw source rank body) →
    s.hears source = true → parseBody k source.toNat body = some c →
    (∀ e, s.entry source.toNat = some e → e.record.role = .desk →
      exec i s = .next (s₀.refuse .role (carriedCueOf c)))
    ∧ (s.entry source.toNat = none → ∃ t, exec i s = .next t
      ∧ t.counter .unknownSource = saturate16 (s.counter .unknownSource) 1
      ∧ t.counter .suspicion = (if s.stop.mode = .joining then s.counter .suspicion else saturate16 (s.counter .suspicion) 1)
      ∧ t.claims = { s.claims with
          view := if s.stop.mode ≠ .joining ∧ s.claims.view = .sound then .suspect else s.claims.view }
      ∧ t.dec = s₀.dec ∧ t.stop = s.stop ∧ t.dir = s.dir ∧ t.exe = s.exe ∧ t.cue = s.cue)
    ∧ (∀ e, s.entry source.toNat = some e → e.record.role = .axis →
      (k = .claim ∧ Table.hasRoom s.claims.table (sweepOwned source.toNat) 1 = false)
        ∨ (k = .release ∧ Table.hasRoom s.claims.table (ownedBy source.toNat) 1 = false) →
      ∃ t, exec i s = .next t ∧ t.claims = { s.claims with view := .blind }
        ∧ t.counters = s.counters.set 1 (saturate16 (s.counter .tableFull) 1)
        ∧ { t with claims := s.claims, counters := s.counters, port := s.port } = s₀)

/-- What a peer's frame brings the executor. A WITHDRAW whose pass makes the own WAITING sweep HELD: in ACTIVE the executor unbrakes at
the height its profile starts from, or settles at once with its RELEASE queued where the load stands at the target; in another mode the
wait timer alone stops; an executor that does not want the claim starts nothing. A RELEASE that leaves a new conflict between an own HELD
claim and another owner's stops an AXIS with cause COLLISION and the other owner of the lowest number; without a new pair nothing of the
kind happens. The order inside an evaluation is assumption log 23, the pairs compared log 21. -/
def Obligations.PromotionsAndCollisions : Prop :=
  (∀ (s : State) (source : BitVec 7) (rank : BitVec 2) (e : Entry) (c d d' : Claim),
    let n := source.toNat
    let T := s.claims.table
    let u := Table.pass s.conflict (Table.remove T (sweepOwned n))
    s.hears source = true → s.entry n = some e → e.record.role = .axis → s.cfg.role = .axis →
    Table.sweepOf T n = some c → Table.sweepOf T s.number = some d → d.isHeld = false →
    Table.sweepOf u s.number = some d' → d'.isHeld = true → Table.heldConflicts s.conflict u s.number = [] →
    let s₀ : State := { s.takenFromInbox ⟨.withdraw, source, rank, []⟩ with
      claims := { s.claims with table := u }, port := { s.port with flags := s.port.flags ||| 0x0200 } }
    let comes (t : State) : Prop := exec (.withdraw source rank []) s = .next t
    (s.exe.motion = .claiming → s.exe.awaiting = .nothing → ∀ g start, s.exe.segment = some g → s.exe.startHeight = some start →
      (s.stop.mode = .active → start ≠ g.target → comes { s₀ with
        exe := { s.exe with
          motion := .unbraking, setpoint := some start, waitSince := none, brakeSince := some s.now, standSince := none
          restSince := none }
        drive := { s.drive with torqueReq := true, brakeReq := true } })
      ∧ (s.stop.mode = .active → start = g.target → s.stop.duplicate = false → ∃ t, comes t ∧ t.claims = s₀.claims
        ∧ t.exe = { s.exe with
            motion := .settling, purpose := some .release, stage := .running, setpoint := none, waitSince := none
            awaiting := .release }
        ∧ t.drive = s.drive ∧ t.stop = s.stop ∧ t.owesRelease s.standingBand)
      ∧ (s.stop.mode ≠ .active → comes { s₀ with exe := { s.exe with waitSince := none } }))
    ∧ (s.exe.motion ≠ .claiming ∨ s.exe.awaiting ≠ .nothing → comes s₀))
  ∧ (∀ (s : State) (source : BitVec 7) (rank : BitVec 2) (body : List Byte) (e : Entry) (depth vertical : Band),
    let n := source.toNat
    s.hears source = true → s.entry n = some e → e.record.role = .axis → s.cfg.role = .axis →
    parseBody .release n body = some (.release depth vertical) → Table.hasRoom s.claims.table (ownedBy n) 1 = true →
    let v := Table.enter (Table.remove s.claims.table (ownedBy n)) ⟨n, .standing, depth, vertical, true⟩
    let u := if Table.sameClaims s.claims.table v then v else Table.pass s.conflict v
    let new := (Table.heldConflicts s.conflict u s.number).filter fun x =>
      !(Table.heldConflicts s.conflict s.claims.table s.number).contains x
    ∃ t, exec (.release source rank body) s = .next t ∧ t.claims = { s.claims with table := u }
      ∧ (new = [] → t.stop = s.stop ∧ t.counter .claimsCollision = s.counter .claimsCollision)
      ∧ (∀ other, other ∈ new.map (·.2.1) → (∀ x ∈ new, other ≤ x.2.1) →
          t.counter .claimsCollision = saturate16 (s.counter .claimsCollision) 1 ∧ t.stop.mode = .stopped
          ∧ (s.stop.mode ≠ .stopped → t.stop.record.map (fun r => (r.cause, r.source)) = some (.collision, some other))
          ∧ (s.stop.mode = .stopped →
              t.stop.record = s.stop.record.map fun r => { r with further := min 65535 (r.further + 1) })))
  ∧ ∀ (conflict : Claim → Claim → Bool) (T : Table) (self : Nat) (x : Bool × Nat × Bool),
    x ∈ Table.heldConflicts conflict T self ↔
      ∃ i c j d, (i, c) ∈ T ∧ (j, d) ∈ T ∧ c.isHeld = true ∧ d.isHeld = true ∧ c.owner = self ∧ d.owner ≠ self
        ∧ conflict c d = true ∧ x = (c.isSweep, d.owner, d.isSweep)

/-- STATUS of a known peer: the report replaces the entry's last one, the age restarts and the entry is PRESENT. At a DESK nothing else
follows, and for a DESK's report nothing but the gate; at an AXIS loads that meet stop it with cause PROXIMITY. A STATUS of a station with
no entry is counted UNKNOWN SOURCE, and outside JOINING it is a suspicion event. The watch comes before the gate (assumption log 22). -/
def Obligations.StatusFromAPeer : Prop :=
  (∀ (s : State) (source : BitVec 7) (rank : BitVec 2) (body : List Byte) (r : StatusReport) (e : Entry),
    let n := source.toNat
    s.hears source = true → parseBody .status n body = some (.status r) → s.entry n = some e →
    let dir : PeerDirectory := { s.dir with entries := s.dir.entries.map fun x =>
      if x.number = n then { x with lastStatus := some r, ageFrom := s.now, present := true } else x }
    (s.cfg.role = .desk → exec (.status source rank body) s = .next { s.takenFromInbox ⟨.status, source, rank, body⟩ with
      dir := dir, port := { s.port with flags := if e.present then s.port.flags else s.port.flags ||| 0x0100 } })
    ∧ (e.record.role = .desk →
        (s.exe.motion ≠ .gated ∨ s.exe.gateLatch = true ∨ ∀ g, s.exe.segment = some g → g.gate.map (·.peer) ≠ some n) →
        exec (.status source rank body) s = .next { s.takenFromInbox ⟨.status, source, rank, body⟩ with
          dir := dir, port := { s.port with flags := if e.present then s.port.flags else s.port.flags ||| 0x0100 } })
    ∧ ∃ t, exec (.status source rank body) s = .next t ∧ t.dir = dir
      ∧ (∀ theirs ours, s.cfg.role = .axis → e.record.role = .axis → r.height = some theirs → s.actualHeight = some ours →
          s.areCompanions s.number n = false → e.record.depthBand.intersects s.ownDepth = true →
          (e.record.occupied theirs).intersects (s.ownOccupied ours) = true →
          t.stop = { s.stop with mode := .stopped, record := s.recordAfter .proximity (some n) })
      ∧ t.now = s.now ∧ t.cfg = s.cfg ∧ t.claims = s.claims ∧ t.laneA = s.laneA ∧ t.laneB = s.laneB ∧ t.merger = s.merger
      ∧ t.pending = s.pending)
  ∧ ∀ (s : State) (source : BitVec 7) (rank : BitVec 2) (body : List Byte) (r : StatusReport),
    s.hears source = true → parseBody .status source.toNat body = some (.status r) → s.entry source.toNat = none →
    ∃ t, exec (.status source rank body) s = .next t
      ∧ t.counter .unknownSource = saturate16 (s.counter .unknownSource) 1
      ∧ t.counter .suspicion = (if s.stop.mode = .joining then s.counter .suspicion else saturate16 (s.counter .suspicion) 1)
      ∧ t.claims = { s.claims with
          view := if s.stop.mode ≠ .joining ∧ s.claims.view = .sound then .suspect else s.claims.view }
      ∧ (s.stop.mode ≠ .joining → s.claims.view ≠ .blind → s.stop.duplicate = false → t.hasQueued .restateRequest = true)
      ∧ t.dir = s.dir ∧ t.stop = s.stop ∧ t.exe = s.exe ∧ t.cue = s.cue ∧ t.drive = s.drive ∧ t.now = s.now

/-- The Proximity Watch and the gate at a STATUS of a peer. Loads that meet stop this AXIS and queue a STOP to the peer with cause
PROXIMITY; a peer braked at rest outside its HELD claims is counted BREACH in SOUND and sent a STOP with cause BREACH. No STOP goes to a
peer that reports STOPPED, none is queued twice, and one without room is dropped and counted. A GATED executor whose gate names the peer
sets its latch where the report satisfies it, and claims at once where mode, view and height let it. The watch comes before the gate
(assumption log 22); what counts as the same STOP is log 45; that PROXIMITY is queued before BREACH is log 57. -/
def Obligations.ReportsWatchedAndGated : Prop :=
  ∀ (s : State) (source : BitVec 7) (rank : BitVec 2) (body : List Byte) (r : StatusReport) (e : Entry),
    let n := source.toNat
    s.hears source = true → parseBody .status n body = some (.status r) → s.entry n = some e → s.cfg.role = .axis →
    let reports (t : State) : Prop := exec (.status source rank body) s = .next t
    (∀ theirs ours, e.record.role = .axis → r.height = some theirs → s.actualHeight = some ours →
      s.areCompanions s.number n = false → e.record.depthBand.intersects s.ownDepth = true →
      let meet : Prop := (e.record.occupied theirs).intersects (s.ownOccupied ours) = true
      let stray : Prop := s.claims.view = .sound ∧ (r.motion = .idle ∨ r.motion = .paused)
        ∧ s.withinClaims n (e.record.occupied theirs) = false
      let stops (cause : SafeCause) : TxFrame := ⟨.stop, .watch, some (Content.safe (.station n) cause).encode, false⟩
      ∃ t, reports t
        ∧ (meet → t.stop = { s.stop with mode := .stopped, record := s.recordAfter .proximity (some n) })
        ∧ (¬meet → t.stop = s.stop)
        ∧ (stray → t.counter .breach = saturate16 (s.counter .breach) 1)
        ∧ (¬stray → t.counter .breach = s.counter .breach)
        ∧ (r.mode = .stopped ∨ ¬meet ∧ ¬stray → t.tx.safe = s.tx.safe ∧ t.counter .safeDropped = s.counter .safeDropped)
        ∧ (r.mode ≠ .stopped → s.tx.safe = ⟨[], []⟩ →
            (meet → ¬stray → t.tx.safe = ⟨[stops .proximity], []⟩) ∧ (¬meet → stray → t.tx.safe = ⟨[stops .breach], []⟩)
            ∧ (meet → stray → t.tx.safe = ⟨[stops .proximity, stops .breach], []⟩))
        ∧ (r.mode ≠ .stopped → ∀ cause, (meet ∧ ¬stray ∧ cause = .proximity) ∨ (¬meet ∧ stray ∧ cause = .breach) →
            (stops cause ∈ s.tx.safe.frames → t.tx.safe = s.tx.safe ∧ t.counter .safeDropped = s.counter .safeDropped)
            ∧ ((∀ x ∈ s.tx.safe.frames, x.kind ≠ .stop) → 2 ≤ s.tx.safe.places.length →
              t.tx.safe = s.tx.safe ∧ t.counter .safeDropped = saturate16 (s.counter .safeDropped) 1)))
    ∧ (∀ band : Band, s.tableOk = true → (s.withinClaims n band = true ↔
        ∃ i c j d, (i, c) ∈ s.claims.table ∧ (j, d) ∈ s.claims.table ∧ c.owner = n ∧ d.owner = n ∧ c.isHeld = true
          ∧ d.isHeld = true ∧ band.covered c.vertical d.vertical = true))
    ∧ (∀ g gate, s.exe.motion = .gated → s.exe.gateLatch = false → s.exe.segment = some g → g.gate = some gate → gate.peer = n →
      (∀ theirs ours, e.record.role = .axis → r.height = some theirs → s.actualHeight = some ours →
        (e.record.occupied theirs).intersects (s.ownOccupied ours) = false) →
      let met : Prop := ∃ h, r.height = some h ∧ match gate.relation with
        | .above => gate.threshold.getD 0 < h
        | .below => h < gate.threshold.getD 0
        | .still => r.motion = .idle ∨ r.motion = .paused
      ∃ t, reports t ∧ t.stop = s.stop ∧ t.claims = s.claims
        ∧ (¬met → t.exe = s.exe)
        ∧ (met → s.stop.mode ≠ .active ∨ s.claims.view ≠ .sound ∨ s.actualHeight = none → t.exe = { s.exe with gateLatch := true })
        ∧ (met → s.stop.mode = .active → s.claims.view = .sound → ∀ h, s.actualHeight = some h →
            t.exe = { s.exe with
              gateLatch := true, motion := .claiming, startHeight := some h, awaiting := .nothing
              preMove := some (s.preMoveBand h), usePreMove := false }
            ∧ (s.stop.duplicate = false → t.hasQueued .claim = true)))

/-- Frames with the station's own number. One that is no expected echo is a duplicate event. The echo of the own CLAIM enters it and,
where it is HELD in ACTIVE, unbrakes at the height the profile starts from. The echo of the executor's RELEASE leaves the executor IDLE and
completes the head segment: it leaves the queue, the next segment of its cue starts, or a pending park takes effect and an armed head of
another cue starts in ACTIVE and HALTED; a frozen head stays and a cancelling cue leaves. The echo of the ANNOUNCE begins the restate
window; the echo of a STATUS enters it in the own entry. The echo is taken with the content sent (assumption log 39); what counts as a
change of the table is log 21, that an idle executor holds no profile start height log 62. -/
def Obligations.OwnFramesTaken : Prop :=
  ∀ (s : State) (source : BitVec 7) (rank : BitVec 2) (body : List Byte), s.stop.mode.onBus = true → s.misfiledNext = false →
    source.toNat = s.number → stationInRange source.toNat = true →
    let T := s.claims.table
    let n := s.number
    (∀ f : AcceptedFrame, f.source = source → s.expectedEcho f.kind = none → ∃ t, exec f.command s = .next t
      ∧ t.stop.duplicate = true ∧ t.counter .duplicate = saturate16 (s.counter .duplicate) 1
      ∧ (s.cfg.role = .axis → t.stop = { s.stop with
          mode := .stopped, duplicate := true, record := s.recordAfter .duplicate none })
      ∧ (s.cfg.role = .desk → t.stop = { s.stop with duplicate := true })
      ∧ (∀ g ∈ t.tx.space.frames ++ t.tx.report.frames, g.inFlight = true)
      ∧ t.dir = { s.dir with reportDueAt := none, reportDue := false } ∧ t.claims = s.claims)
    ∧ (∀ c f depth vertical p cue index, s.expectedEcho .claim = some (c, f) →
      parseBody .claim n (f.body.getD []) = some (.claim depth vertical p cue index) → s.cfg.role = .axis →
      Table.hasRoom T (sweepOwned n) 1 = true →
      let claim : Claim := ⟨n, .sweep .waiting p cue index, depth, vertical, true⟩
      let v := Table.remove T (sweepOwned n)
      let w := if Table.eligible s.conflict v claim then
        Table.remove (Table.enter v { claim with form := .sweep .held p cue index }) fun d => d.owner == n && !d.isSweep
        else Table.enter v claim
      let u := if Table.sameClaims T w then w else Table.pass s.conflict w
      Table.heldConflicts s.conflict u n = [] → ∃ t, exec (.claim source rank body) s = .next t
        ∧ t.tx.state = .idle ∧ t.tx.expected = none ∧ t.claims = { s.claims with table := u } ∧ t.stop = s.stop
        ∧ ((Table.sweepOf u n).map (·.isHeld) = some false → t.exe = s.exe ∧ t.drive = s.drive)
        ∧ ((Table.sweepOf u n).map (·.isHeld) = some true → s.exe.motion = .claiming → s.exe.awaiting = .nothing →
          s.stop.mode = .active → ∀ g start, s.exe.segment = some g → s.exe.startHeight = some start → start ≠ g.target →
          t.exe = { s.exe with
            motion := .unbraking, setpoint := some start, waitSince := none, brakeSince := some s.now, standSince := none
            restSince := none }
          ∧ t.drive = { s.drive with torqueReq := true, brakeReq := true }))
    ∧ (∀ c f depth vertical e rest, s.expectedEcho .release = some (c, f) → f.origin = .executor → s.exe.awaiting = .release →
      parseBody .release n (f.body.getD []) = some (.release depth vertical) → Table.hasRoom T (ownedBy n) 1 = true →
      s.cue.queue = e :: rest →
      let w := Table.enter (Table.remove T (ownedBy n)) ⟨n, .standing, depth, vertical, true⟩
      let u := if Table.sameClaims T w then w else Table.pass s.conflict w
      Table.heldConflicts s.conflict u n = [] → ∃ t, exec (.release source rank body) s = .next t
        ∧ t.claims = { s.claims with table := u } ∧ t.tx.state = .idle ∧ t.stop = s.stop ∧ t.drive = s.drive ∧ t.dir = s.dir
        ∧ s.segmentDone t e rest)
    ∧ (∀ c f r cs, s.expectedEcho .announce = some (c, f) → parseBody .announce n (f.body.getD []) = some (.announce r cs) →
      ∃ t, exec (.announce source rank body) s = .next t ∧ t.stop.joinStage = .window ∧ t.claims.windowSince = some s.now
        ∧ t.tx.expected = none)
    ∧ (∀ c f r e, s.expectedEcho .status = some (c, f) → parseBody .status n (f.body.getD []) = some (.status r) →
      s.entry n = some e → ∃ t, exec (.status source rank body) s = .next t
        ∧ (t.entry n).bind (·.lastStatus) = some r ∧ t.claims = s.claims ∧ t.stop = s.stop ∧ t.exe = s.exe)

/-- The expected echoes of the station's own WITHDRAW, TRIM, RESTATE, RESTATE REQUEST, STOP and HALT. The WITHDRAW ends the execution
where a STANDING is left and else is followed by the RELEASE that restores one; the TRIM narrows the own sweep; the RESTATE enters the own
record and claims as listed, and a sweep listed HELD unbrakes an executor that waits for it; the RESTATE REQUEST begins the window in
SUSPECT; a STOP or HALT from the mailbox acts on the station itself where it selects it, one of the station's own making does not. Echoes
are taken with the content sent (assumption log 39), own SAFE frames as log 42 has it, the order inside an evaluation is log 23, what counts
as a change of the table log 21, that an idle executor holds no profile start height log 62. -/
def Obligations.OwnEchoesOfReservations : Prop :=
  ∀ (s : State) (source : BitVec 7) (rank : BitVec 2) (body : List Byte) (k : Kind) (i : FrameClass) (f : TxFrame), s.stop.mode.onBus = true →
    s.misfiledNext = false → source.toNat = s.number → stationInRange source.toNat = true → s.expectedEcho k = some (i, f) →
    let T := s.claims.table
    let n := s.number
    let sent := parseBody k n (f.body.getD [])
    let echoes (t : State) : Prop := exec (AcceptedFrame.command ⟨k, source, rank, body⟩) s = .next t ∧ t.tx.expected = none
    (∀ x rest, k = .withdraw → sent = some .empty → s.exe.awaiting = .withdraw → s.frozen = true → s.cue.queue = x :: rest →
      x.cancelling = false →
      let u := match Table.sweepOf T n with
        | some _ => Table.pass s.conflict (Table.remove T (sweepOwned n))
        | none => T
      Table.heldConflicts s.conflict u n = [] →
      ∃ t, echoes t ∧ t.claims = { s.claims with table := u } ∧ t.stop = s.stop ∧ t.cue = s.cue
        ∧ ((∃ c, Table.standingOf u n = some c) → t.exe = s.exe.idled)
        ∧ (Table.standingOf u n = none → s.stop.duplicate = false →
            t.owesRelease s.standingBand ∧ t.exe = { s.exe with awaiting := .release }))
    ∧ (∀ cue index vertical, k = .trim → sent = some (.trim cue index vertical) →
      let narrowed : Table := T.map fun (j, d) =>
        (j, if d.owner = n ∧ d.isSweep = true then { d with vertical := vertical, confirmed := true } else d)
      (∀ c p, Table.sweepOf T n = some c → c.form = .sweep .held p cue index → vertical.inside c.vertical = true →
        let u := if Table.sameClaims T narrowed then narrowed else Table.pass s.conflict narrowed
        Table.heldConflicts s.conflict u n = [] →
        ∃ t, echoes t ∧ t.claims = { s.claims with table := u } ∧ t.exe = s.exe ∧ t.stop = s.stop ∧ t.drive = s.drive)
      ∧ ((∀ c p, Table.sweepOf T n = some c → c.form = .sweep .held p cue index → vertical.inside c.vertical = false) →
        ∃ t, echoes t ∧ t.claims = s.claims ∧ t.exe = s.exe ∧ t.stop = s.stop
          ∧ t.counter .trimRejected = saturate16 (s.counter .trimRejected) 1))
    ∧ (∀ r cs e, k = .restate → sent = some (.announce r cs) → r.role = .axis → s.cfg.role = .axis → s.entry n = some e → cs ≠ [] →
      Table.hasRoom T (ownedBy n) cs.length = true →
      ∃ t, echoes t ∧ t.entry n = some { e with record := r, present := true, ageFrom := s.now }
        ∧ (let u := cs.foldl (fun u x => Table.enter u (x.claim n)) (Table.remove T (ownedBy n))
          t.claims = { s.claims with table := if Table.sameClaims T u then u else Table.pass t.conflict u })
        ∧ (Table.heldConflicts t.conflict t.claims.table n = [] →
            t.stop = s.stop
            ∧ (s.exe.motion ≠ .claiming → t.exe = s.exe)
            ∧ (∀ g start c, s.exe.motion = .claiming → s.exe.awaiting = .nothing → s.stop.mode = .active →
                s.exe.segment = some g → s.exe.startHeight = some start → start ≠ g.target →
                Table.sweepOf t.claims.table n = some c → c.isHeld = true →
                t.exe = { s.exe with
                  motion := .unbraking, setpoint := some start, waitSince := none, brakeSince := some s.now, standSince := none
                  restSince := none })))
    ∧ (k = .restateRequest → sent = some .empty → ∃ t, echoes t ∧ t.stop = s.stop ∧ t.exe = s.exe
        ∧ t.counter .suspicion = s.counter .suspicion ∧ (s.stop.duplicate = false → t.hasQueued .restate = true)
        ∧ t.claims = if s.claims.view = .suspect then { s.claims with
            table := T.map fun (j, c) => (j, { c with confirmed := false }), windowSince := some s.now } else s.claims)
    ∧ (∀ sel cause, k = .stop ∨ k = .halt → sent = some (.safe sel cause) →
      (f.origin ≠ .mailbox ∨ s.cfg.role = .desk ∨ s.selects sel = false →
        ∃ t, echoes t ∧ t.stop = s.stop ∧ t.exe = s.exe ∧ t.cue = s.cue ∧ t.claims = s.claims)
      ∧ (f.origin = .mailbox → s.cfg.role = .axis → s.selects sel = true →
        (k = .stop → ∃ t, echoes t
          ∧ t.stop = { s.stop with mode := .stopped, record := s.recordAfter cause.stopCause (some n) })
        ∧ (k = .halt → s.stop.mode = .active → ∃ t, echoes t ∧ t.stop = { s.stop with mode := .halted })
        ∧ (k = .halt → s.stop.mode ≠ .active → ∃ t, echoes t ∧ t.stop = s.stop
          ∧ t.counter .safeIgnored = saturate16 (s.counter .safeIgnored) 1)))

/-- The admission of a CUE frame at an AXIS: a frame not addressed to it has no effect, the tests of source, role, rank, parked state and
mode refuse in their order, and a DESK takes none. The selector test by form: STATION by number, GROUP by the membership bytes of the
record, SPAN by the slot and ALL at an AXIS alone. The mode test by kind: LOAD in ACTIVE, HALTED or STOPPED once joined, GO in ACTIVE or
HALTED, RESUME outside STOPPED, CANCEL always. -/
def Obligations.CueFrameAdmission : Prop :=
  (∀ s : State,
    (s.modeAdmits .load = true ↔
        (s.stop.mode = .active ∨ s.stop.mode = .halted ∨ s.stop.mode = .stopped) ∧ s.stop.joinStage = .joined)
    ∧ (s.modeAdmits .go = true ↔ s.stop.mode = .active ∨ s.stop.mode = .halted)
    ∧ (s.modeAdmits .resume = true ↔ s.stop.mode ≠ .stopped) ∧ s.modeAdmits .cancel = true
    ∧ (∀ n, (s.selects (.station n) = true ↔ n = s.cfg.number) ∧ (Selector.station n).isStation = true)
    ∧ (∀ g, (s.selects (.group g) = true ↔ (g < 8 ∧ (s.cfg.byteAt 0x18).getLsbD g = true)
          ∨ (8 ≤ g ∧ g < 16 ∧ (s.cfg.byteAt 0x17).getLsbD (g - 8) = true))
        ∧ (Selector.group g).isStation = false)
    ∧ (∀ lo hi, (s.selects (.span lo hi) = true ↔ s.cfg.role = .axis ∧ lo ≤ s.cfg.slot ∧ s.cfg.slot ≤ hi)
        ∧ (Selector.span lo hi).isStation = false)
    ∧ (s.selects .all = true ↔ s.cfg.role = .axis) ∧ Selector.all.isStation = false)
  ∧ ∀ (s : State) (source : BitVec 7) (rank : BitVec 2) (body : List Byte) (k : Kind) (i : Instr) (c : Content) (sel : Selector)
    (cue : Nat),
    let s₀ := s.takenFromInbox ⟨k, source, rank, body⟩
    (k = .load ∧ i = .load source rank body ∧ ∃ gs, c = .load sel cue gs)
      ∨ (c = .cue sel cue ∧ ((k = .go ∧ i = .go source rank body) ∨ (k = .resume ∧ i = .resume source rank body)
        ∨ (k = .cancel ∧ i = .cancel source rank body))) →
    s.hears source = true → parseBody k source.toNat body = some c →
    let refused (code : RefusalCode) : Prop := exec i s = .next (s₀.refuse code (some cue))
    let addressed : Prop := s.cfg.role = .axis ∧ s.selects sel = true ∧ (k = .load ∨ s.holdsCue cue = true)
    (¬addressed → exec i s = .next s₀)
    ∧ (addressed →
      (s.entry source.toNat = none → refused .unknownSource)
      ∧ ∀ e, s.entry source.toNat = some e →
        (e.record.role = .axis → refused .role)
        ∧ (e.record.role = .desk → s.cfg.cueRankLimit < rank.toNat → refused .authority)
        ∧ (e.record.role = .desk → rank.toNat ≤ s.cfg.cueRankLimit →
          (s.cue.parked ≠ .notParked → sel.isStation = false → refused .parked)
          ∧ (s.cue.parked = .notParked ∨ sel.isStation = true → s.modeAdmits k = false → refused .notActive)))

/-- LOAD, GO, RESUME and CANCEL that pass their admission. A LOAD stores its segments fitted to the record, each field of them. A RESUME of
a VOID head freezes the queue again. A CANCEL of a started cue follows the CANCEL column of 6.5: a segment still delaying or gated, or whose
CLAIM is unsent, is finished with at once; a sent claim is withdrawn and its echo awaited; a load under way or braked is brought to rest.
When the cue has left, the freeze of what remains is decided, a pending park request takes effect, and an armed new head starts. That an
idle executor holds no profile start height is the model's choice (assumption log 62); a pause that applies its brake is log 15, the
pre-move band from UNBRAKING log 16. -/
def Obligations.CueFramesTaken : Prop :=
  (∀ (s : State) (cue : Nat) (g : CarriedSegment), s.fitsTo cue g (s.fitSegment cue g))
  ∧ ∀ (s : State) (source : BitVec 7) (rank : BitVec 2) (body : List Byte) (sel : Selector) (cue : Nat) (e : Entry),
    s.hears source = true → s.cfg.role = .axis → s.selects sel = true → s.entry source.toNat = some e → e.record.role = .desk →
    rank.toNat ≤ s.cfg.cueRankLimit → s.cue.parked = .notParked ∨ sel.isStation = true →
    let s₀ (k : Kind) : State := s.takenFromInbox ⟨k, source, rank, body⟩
    let queues (k : Kind) (c : Instr) (q : List QueueEntry) : Prop := exec c s = .next { s₀ k with
      cue := { s.cue with queue := q }, port := { s.port with flags := s.port.flags ||| 0x0400 } }
    let armed : List QueueEntry := s.cue.queue.map fun x => if x.segment.cue = cue then { x with armed := true } else x
    (∀ gs, parseBody .load source.toNat body = some (.load sel cue gs) → s.modeAdmits .load = true → s.holdsCue cue = false →
      (s.cue.queue.length + gs.length ≤ 4 → queues .load (.load source rank body)
        (s.cue.queue ++ gs.map fun g => ⟨s.fitSegment cue g, sel.specificity, false, false, false, false⟩))
      ∧ (4 < s.cue.queue.length + gs.length →
        exec (.load source rank body) s = .next ((s₀ .load).refuse .full (some cue))))
    ∧ (∀ gs, parseBody .load source.toNat body = some (.load sel cue gs) → s.modeAdmits .load = true → s.cueStarted cue = true →
      exec (.load source rank body) s = .next ((s₀ .load).refuse .busy (some cue)))
    ∧ (∀ gs before old after, parseBody .load source.toNat body = some (.load sel cue gs) → s.modeAdmits .load = true →
      s.cueStarted cue = false → s.cue.queue = before ++ old :: after → old.segment.cue = cue →
      (∀ x ∈ before, x.segment.cue ≠ cue) →
      (sel.specificity < old.specificity →
        exec (.load source rank body) s = .next ((s₀ .load).refuse .superseded (some cue)))
      ∧ (old.specificity ≤ sel.specificity →
        let others := after.filter fun x => decide (x.segment.cue ≠ cue)
        (before.length + others.length + gs.length ≤ 4 → queues .load (.load source rank body)
          (before ++ (gs.map fun g => ⟨s.fitSegment cue g, sel.specificity, old.armed, false, false, false⟩) ++ others))
        ∧ (4 < before.length + others.length + gs.length →
          exec (.load source rank body) s = .next ((s₀ .load).refuse .full (some cue)))))
    ∧ (parseBody .go source.toNat body = some (.cue sel cue) → s.holdsCue cue = true → s.modeAdmits .go = true →
      (s.headCue = some cue → s.cueStarted cue = true →
        exec (.go source rank body) s = .next ((s₀ .go).bump .cueIgnored))
      ∧ (s.headCue ≠ some cue ∨ s.cueStarted cue = false ∧ s.frozen = true → armed ≠ s.cue.queue →
        queues .go (.go source rank body) armed)
      ∧ (s.headCue ≠ some cue ∨ s.cueStarted cue = false ∧ s.frozen = true → armed = s.cue.queue →
        exec (.go source rank body) s = .next (s₀ .go))
      ∧ (∀ x rest, armed = x :: rest → s.headCue = some cue → s.cueStarted cue = false → s.frozen = false →
          ∃ t, exec (.go source rank body) s = .next t ∧ t.headStarts x rest s.exe ∧ t.cue.parked = s.cue.parked
            ∧ t.stop = s.stop ∧ t.claims = s.claims ∧ t.drive = s.drive ∧ t.dir = s.dir))
    ∧ (parseBody .resume source.toNat body = some (.cue sel cue) → s.holdsCue cue = true → s.stop.mode ≠ .stopped →
      (∀ x rest, armed = x :: rest → s.stop.mode = .active → s.frozen = true → x.segment.cue = cue → x.cancelling = false →
          s.exe.motion = .idle →
          ∃ t, exec (.resume source rank body) s = .next t ∧ t.cue = { s.cue with
              freeze := if x.segment.isVoid then .voidTarget else .none, queue := { x with started := true } :: rest }
            ∧ (x.segment.isVoid = true → t.exe = s.exe ∧ t.tx = s.tx)
            ∧ (x.segment.isVoid = false → t.exe.segment = some x.segment ∧ (t.exe.motion = .gated ∨ t.exe.motion = .claiming))
            ∧ t.flagSet .queueChange = true
            ∧ t.stop = s.stop ∧ t.claims = s.claims ∧ t.drive = s.drive ∧ t.dir = s.dir)
      ∧ (s.stop.mode ≠ .active ∨ s.frozen = false ∨ s.headCue ≠ some cue ∨ s.headCancelling = true ∨ s.exe.motion ≠ .idle →
        exec (.resume source rank body) s = .next ((s₀ .resume).bump .cueIgnored)))
    ∧ (parseBody .cancel source.toNat body = some (.cue sel cue) → s.holdsCue cue = true →
      (s.cue.queue.any (fun x => x.segment.cue == cue && x.cancelling) = true →
        exec (.cancel source rank body) s = .next ((s₀ .cancel).bump .cueIgnored))
      ∧ (s.cue.queue.any (fun x => x.segment.cue == cue && x.cancelling) = false → s.cueStarted cue = false →
          s.headCue ≠ some cue →
          let left := s.cue.queue.filter (·.segment.cue != cue)
          let parks : Prop := s.cue.parked = .pending ∧ s.cue.freeze = .none ∧ ∀ x ∈ left, x.started = false
          (¬parks → queues .cancel (.cancel source rank body) left)
          ∧ (parks → exec (.cancel source rank body) s = .next { s₀ .cancel with
              cue := { s.cue with queue := left.filter fun x => 4 ≤ x.specificity, parked := .parked }
              counters := s.counters.set 9 (saturate16 (s.counter .parkRemoved) (left.filter fun x => x.specificity < 4).length)
              port := { s.port with flags := s.port.flags ||| 0x0400 } }))
      ∧ (s.cue.queue.any (fun x => x.segment.cue == cue && x.cancelling) = false → s.headCue = some cue →
          s.cueStarted cue = false ∨ s.exe.motion = .idle → s.cue.parked ≠ .pending →
          (∀ x ∈ s.cue.queue, x.segment.cue ≠ cue → x.armed = false) →
          exec (.cancel source rank body) s = .next { s₀ .cancel with
            cue := { s.cue with
              queue := s.cue.queue.filter (·.segment.cue != cue)
              freeze := if s.cueStarted cue = true ∧ s.headMoved = true ∧ (s.cue.queue.filter (·.segment.cue != cue)) ≠ []
                then .cancelStopped else .none }
            port := { s.port with flags := s.port.flags ||| 0x0400 } })
      ∧ (s.cue.queue.any (fun x => x.segment.cue == cue && x.cancelling) = false → s.cueStarted cue = true →
          s.exe.motion ≠ .idle → ∃ t, exec (.cancel source rank body) s = .next t ∧ t.stop = s.stop ∧ t.claims = s.claims)
      ∧ ∀ x rest, s.cue.queue = x :: rest → x.segment.cue = cue →
        s.cue.queue.any (fun x => x.segment.cue == cue && x.cancelling) = false →
        let left := s.cue.queue.filter (·.segment.cue != cue)
        let cancels (t : State) : Prop := exec (.cancel source rank body) s = .next t ∧ t.stop = s.stop ∧ t.claims = s.claims
          ∧ t.dir = s.dir
        let marked : CueEngine := { s.cue with
          cancelMoved := x.moved
          queue := s.cue.queue.map fun y => if y.segment.cue = cue then { y with cancelling := true } else y }
        let braked : Prop := s.exe.motion = .settling ∧ s.exe.stage = .tripped ∧ s.exe.awaiting = .nothing ∧ s.exe.tripOpen = false
        (s.cueStarted cue = false ∨ s.exe.motion = .idle →
            ∃ t, cancels t ∧ t.drive = s.drive ∧ s.headLeaves t left (s.cueStarted cue && x.moved) s.exe)
        ∧ (x.started = true →
            s.exe.motion = .delaying ∨ s.exe.motion = .gated
              ∨ (s.exe.motion = .claiming ∧ s.exe.awaiting = .nothing
                  ∧ (s.stop.duplicate = true ∨ s.hasUnsent .space (·.kind == .claim) = true))
              ∨ (s.stop.duplicate = true ∧ (s.exe.motion = .paused ∨ braked)) →
            ∃ t, cancels t ∧ t.drive = s.drive ∧ s.headLeaves t left x.moved s.exe.idled
              ∧ (s.exe.motion = .claiming → s.stop.duplicate = false → (t.exe.motion = .idle ∨ t.exe.motion = .gated) →
                  t.hasUnsent .space (·.kind == .claim) = false))
        ∧ (x.started = true → s.exe.motion = .claiming →
            (s.exe.awaiting ≠ .nothing → ∃ t, cancels t ∧ t.cue = marked ∧ s.givesUpClaim t)
            ∧ (s.exe.awaiting = .nothing → s.stop.duplicate = false → s.hasUnsent .space (·.kind == .claim) = false →
              ∃ t, cancels t ∧ t.cue = marked ∧ s.givesUpClaim t))
        ∧ (x.started = true →
            s.exe.motion = .unbraking ∨ s.exe.motion = .moving ∨ s.exe.motion = .stopping
              ∨ (s.exe.motion = .settling ∧ (s.stop.duplicate = false ∨ ¬braked))
              ∨ (s.exe.motion = .paused ∧ s.stop.duplicate = false) →
            ∃ t, cancels t ∧ t.cue = marked ∧ s.bringsToRest t))

/-! ### The relations of chapter 1 and the promotion pass -/

/-- The three relations between bands and the overlap of claims. -/
def Obligations.BandsAndOverlap : Prop :=
  (∀ a b : Band, (a.intersects b = true ↔ a.lo ≤ b.hi ∧ b.lo ≤ a.hi) ∧ a.intersects b = b.intersects a
    ∧ (a.inside b = true ↔ b.lo ≤ a.lo ∧ a.hi ≤ b.hi) ∧ a.inside a = true
    ∧ (a.lo ≤ a.hi → b.lo ≤ b.hi → a.hi = b.lo → a.intersects b = true))
  ∧ (∀ a b c : Band, a.lo ≤ a.hi → (a.covered b c = true ↔
      ∀ x, a.lo ≤ x → x ≤ a.hi → (b.lo ≤ x ∧ x ≤ b.hi) ∨ (c.lo ≤ x ∧ x ≤ c.hi)))
  ∧ ∀ c d : Claim,
    (c.overlaps d = true ↔ c.owner ≠ d.owner ∧ c.depth.intersects d.depth = true ∧ c.vertical.intersects d.vertical = true)
    ∧ c.overlaps d = d.overlaps c
    ∧ (∀ c' d' : Claim, c'.owner = c.owner → c'.depth = c.depth → c'.vertical = c.vertical → d'.owner = d.owner →
        d'.depth = d.depth → d'.vertical = d.vertical → c'.overlaps d' = c.overlaps d)
    ∧ (c.owner = d.owner → c.overlaps d = false) ∧ (c.depth.intersects d.depth = false → c.overlaps d = false)

/-- The bands of a station, the companions and the rank. The depth band of slot and reaches, clamped to 0 to 127; the occupied band at a
height; the sweep band between two heights, which contains the occupied band at every height between them; the full column between the soft
limits. Two AXIS stations are companions when each names the other. Rank goes by precedence and then by the lower station number, a strict
total order over the claims of different owners, asked of SWEEP claims alone; a precedence that a frame brings lies in 0 to 7. -/
def Obligations.BandsCompanionsAndRank : Prop :=
  (∀ s : State,
    let c := s.cfg
    let occupied (h : Nat) : Band := ⟨(h : Int) - c.drop - c.margin, (h : Int) + c.top + c.margin⟩
    s.ownDepth = ⟨if c.slot < c.front then 0 else c.slot - c.front, if 127 < c.slot + c.rear then 127 else c.slot + c.rear⟩
    ∧ (c.validate = none → c.role = .axis →
        s.ownDepth.lo ≤ c.slot ∧ (c.slot : Int) ≤ s.ownDepth.hi ∧ s.ownDepth.hi - s.ownDepth.lo + 1 ≤ 31
        ∧ ∀ h : Nat, h ≤ 40000 → -27000 ≤ (s.ownOccupied h).lo ∧ (s.ownOccupied h).hi ≤ 47000
          ∧ (c.softLow ≤ h → 0 ≤ (s.ownOccupied h).lo))
    ∧ (∀ h, s.ownOccupied h = occupied h)
    ∧ (∀ h k, h ≤ k → s.sweepBand h k = ⟨(occupied h).lo, (occupied k).hi⟩ ∧ s.sweepBand k h = s.sweepBand h k
        ∧ ∀ m, h ≤ m → m ≤ k → (s.ownOccupied m).inside (s.sweepBand h k) = true)
    ∧ (∀ h, s.sweepBand h h = s.ownOccupied h)
    ∧ s.fullColumnBand = s.sweepBand c.softLow c.softHigh
    ∧ (∀ h, s.actualHeight = some h → s.standingBand = occupied h) ∧ (s.actualHeight = none → s.standingBand = s.fullColumnBand)
    ∧ ∀ a b, s.areCompanions a b = true ↔ a ≠ b ∧ b ∈ s.companionsOf a ∧ a ∈ s.companionsOf b)
  ∧ (∀ (s : State) (n m : Nat), m ∈ s.companionsOf n ↔
      (n = s.number ∧ s.cfg.role = .axis ∧ m ∈ s.cfg.companions)
      ∨ (n ≠ s.number ∧ ∃ e, s.entry n = some e ∧ e.record.role = .axis ∧ m ∈ e.record.companions))
  ∧ (∀ (r : DirRecord) (h : Nat),
      r.depthBand = ⟨if r.slot < r.front then 0 else r.slot - r.front, if 127 < r.slot + r.rear then 127 else r.slot + r.rear⟩
      ∧ r.occupied h = ⟨(h : Int) - r.drop - r.margin, (h : Int) + r.top + r.margin⟩)
  ∧ (∀ (s : State) (c d : Claim), s.conflict c d = true ↔ c.overlaps d = true ∧ s.areCompanions c.owner d.owner = false)
  ∧ (∀ c d : Claim, c.ranksAbove d = true ↔ d.precedence < c.precedence ∨ (c.precedence = d.precedence ∧ c.owner < d.owner))
  ∧ (∀ c : Claim, c.ranksAbove c = false)
  ∧ (∀ c d e : Claim, c.ranksAbove d = true → d.ranksAbove e = true → c.ranksAbove e = true)
  ∧ (∀ c d : Claim, c.owner ≠ d.owner → (c.ranksAbove d = true ↔ ¬d.ranksAbove c = true))
  ∧ (∀ c : Claim, c.isSweep = false → c.isHeld = true)
  ∧ (∀ (t : Table) (x : Nat × Claim), x ∈ t.waitingByRank → x.2.isSweep = true)
  ∧ ∀ (n : Nat) (body : List Byte) (d v : Band) (p cue index : Nat),
      parseBody .claim n body = some (.claim d v p cue index) → p ≤ 7

/-- A promotion pass over a table with rising indices: no WAITING claim that is left is eligible, every promoted claim conflicts with no
other HELD claim of the result, and every other claim stands as it stood but for the STANDING claims of promoted owners. -/
def Obligations.PassPromotesTheEligible : Prop :=
  ∀ (s : State) (T : Table), Table.indicesFrom 0 T = true →
    let u := Table.pass s.conflict T
    (∀ x ∈ u, x.2.isWaiting = true → Table.eligible s.conflict u x.2 = false ∧ x ∈ T)
    ∧ (∀ i c, (i, c) ∈ T → c.isWaiting = true → (i, c.promoted) ∈ u →
        (∀ x ∈ u, x.2.isHeld = true → s.conflict x.2 c.promoted = false) ∧ ∀ x ∈ u, x.2.owner = c.owner → x.2.isSweep = true)
    ∧ (∀ i c, (i, c) ∈ T → c.isSweep = true → (i, c) ∈ u ∨ (i, c.promoted) ∈ u)
    ∧ (∀ i c, (i, c) ∈ T → c.isSweep = false → (i, c) ∉ u →
        ∃ j d, (j, d) ∈ T ∧ d.isWaiting = true ∧ (j, d.promoted) ∈ u ∧ d.owner = c.owner)
    ∧ ∀ x ∈ u, x ∈ T ∨ ∃ i c, (i, c) ∈ T ∧ c.isWaiting = true ∧ x = (i, c.promoted)

/-! ### Invariants -/

/-- Every invariant below holds right after a power-on reset. -/
def Obligations.InvariantsHoldAtReset : Prop :=
  State.reset.quiet = true ∧ State.reset.directoryOk = true ∧ State.reset.tableOk = true ∧ State.reset.queuesOk = true
  ∧ State.reset.oneInFlight = true ∧ State.reset.executorOk = true ∧ State.reset.driveOk = true ∧ State.reset.flagsOk = true

/-- In CONFIG and INERT the blocks of the bus stay at their reset values, and the Peer Directory keeps one entry for a station and at most
71 for peers, through every step. -/
def Obligations.QuietAndDirectoryKept : Prop :=
  ∀ s t : State, step s = .next t → s.quiet = true → s.directoryOk = true → t.quiet = true ∧ t.directoryOk = true

/-- The Claims Table keeps rising indices below 128 and at most one STANDING and one SWEEP of an owner through every step. -/
def Obligations.ClaimsTableKept : Prop :=
  ∀ s t : State, step s = .next t → s.tableOk = true → t.tableOk = true

/-- The class queues keep to their places, the Segment Queue to four, and one frame at a time is in flight, through every step. -/
def Obligations.QueuesKept : Prop :=
  ∀ s t : State, step s = .next t → s.queuesOk = true → s.oneInFlight = true → t.queuesOk = true ∧ t.oneInFlight = true

/-- Outside IDLE the executor runs the started head of the queue, no setpoint is held before UNBRAKING, and torque and brake release are
requested only for a move, through every step. -/
def Obligations.ExecutorAndDriveKept : Prop :=
  ∀ s t : State, step s = .next t → s.executorOk = true → s.driveOk = true → t.executorOk = true ∧ t.driveOk = true

/-- A held setpoint changes only in a link cycle in MOVING or STOPPING, and only to a height whose occupied band lies inside the station's
own HELD sweep; the first setpoint of a move is the height it starts from. -/
def Obligations.SetpointStaysInsideTheHeldSweep : Prop :=
  ∀ (c : Instr) (s t : State) (h : Nat), exec c s = .next t → s.executorOk = true → t.exe.setpoint = some h →
    s.exe.setpoint ≠ some h →
    (s.exe.setpoint = none → s.exe.motion.restful = true → t.exe.startHeight = some h)
    ∧ (s.exe.setpoint ≠ none → c = .linkCycle ∧ (s.exe.motion = .moving ∨ s.exe.motion = .stopping)
        ∧ ∃ claim, s.ownSweep = some claim ∧ claim.isHeld = true ∧ (s.ownOccupied h).inside claim.vertical = true)

/-- Where the flags and the enables stand, with the bits that carry no flag reading 0 through every step from a reset on, and IRQN: low
exactly while a set flag has its enable set. That a write stores the enable byte whole, the bits without a flag included, is the model's
choice (assumption log 27). -/
def Obligations.FlagsEnablesAndIrqn : Prop :=
  (∀ (s : State) (value : Byte),
      exec (.interruptEnablesWrite 0x4A value) s = .next { s with
        port := { s.port with enables := s.port.enables.extractLsb' 8 8 ++ value } }
      ∧ exec (.interruptEnablesWrite 0x4B value) s = .next { s with
        port := { s.port with enables := value ++ s.port.enables.extractLsb' 0 8 } }
      ∧ (s.irqnLow = true ↔ ∃ i, s.port.flags.getLsbD i = true ∧ s.port.enables.getLsbD i = true)
      ∧ (∀ f : Flag, s.flagSet f =
          (if f.bit < 8 then (s.windowByte 0x48).getLsbD f.bit else (s.windowByte 0x49).getLsbD (f.bit - 8)))
      ∧ s.windowByte 0x4A = s.port.enables.extractLsb' 0 8 ∧ s.windowByte 0x4B = s.port.enables.extractLsb' 8 8)
  ∧ [Flag.modeChange, .stopRecorded, .laneError, .refusal, .claimsViewChange, .configFault, .writeLate, .mailboxFree].map Flag.bit
      = [0, 1, 2, 3, 4, 5, 6, 7]
  ∧ [Flag.directoryChange, .claimsChange, .queueChange].map Flag.bit = [8 + 0, 8 + 1, 8 + 2]
  ∧ (∀ s t : State, step s = .next t → s.flagsOk = true → t.flagsOk = true ∧ (t.windowByte 0x49) &&& 0xF8 = 0)
end

