-- ==== Sys2Proof/Laws/Claims.lean ====
section
/-! SUPPORT. What each operation of the Claims Table does to its form: rising indices below 128, and one claim of a kind for
an owner. -/

namespace Sys2Proof.Machine

/-- A table from `n` on is one from any lower bound on. -/
theorem Table.indicesFrom_weaken {m n : Nat} (h : m ≤ n) {t : Table} (ht : Table.indicesFrom n t = true) :
    Table.indicesFrom m t = true := by
  cases t with
  | nil => rfl
  | cons x xs =>
    obtain ⟨i, c⟩ := x
    simp only [Table.indicesFrom, Bool.and_eq_true, decide_eq_true_eq] at ht ⊢
    exact ⟨⟨by omega, ht.1.2⟩, ht.2⟩

/-- Taking claims out keeps the indices rising. -/
theorem Table.indicesFrom_filter (p : Nat × Claim → Bool) (t : Table) (n : Nat) (ht : Table.indicesFrom n t = true) :
    Table.indicesFrom n (t.filter p) = true := by
  induction t generalizing n with
  | nil => rfl
  | cons x xs ih =>
    obtain ⟨i, c⟩ := x
    simp only [Table.indicesFrom, Bool.and_eq_true, decide_eq_true_eq] at ht
    have hrest := ih _ ht.2
    by_cases hp : p (i, c) = true
    · simp [List.filter, hp, Table.indicesFrom, ht.1, hrest]
    · have hw := Table.indicesFrom_weaken (m := n) (n := i + 1) (by omega) hrest
      simpa [List.filter, hp] using hw

/-- Removing claims keeps the indices rising. -/
theorem Table.indicesFrom_remove (p : Claim → Bool) (t : Table) (n : Nat) (ht : Table.indicesFrom n t = true) :
    Table.indicesFrom n (Table.remove t p) = true := Table.indicesFrom_filter _ t n ht

/-- Changing claims where they stand keeps the indices. -/
theorem Table.indicesFrom_map (g : Nat × Claim → Claim) (t : Table) (n : Nat) :
    Table.indicesFrom n (t.map fun x => (x.1, g x)) = Table.indicesFrom n t := by
  induction t generalizing n with
  | nil => rfl
  | cons x xs ih => simp [Table.indicesFrom, ih]

/-- Changing claims one by one keeps the indices. -/
@[simp] theorem Table.indicesFrom_mapClaims (g : Claim → Claim) (t : Table) (n : Nat) :
    Table.indicesFrom n (t.mapClaims g) = Table.indicesFrom n t := Table.indicesFrom_map (fun x => g x.2) t n

/-- A claim entered where there is room takes the lowest free index, and the indices stay rising. -/
theorem Table.indicesFrom_insertFrom (c : Claim) (t : Table) (n : Nat) (ht : Table.indicesFrom n t = true)
    (room : n + t.length < 128) : Table.indicesFrom n (Table.insertFrom n c t) = true := by
  induction t generalizing n with
  | nil =>
    have hn : n < 128 := by simpa using room
    simp only [Table.insertFrom, Table.indicesFrom, Bool.and_eq_true, decide_eq_true_eq]
    exact ⟨⟨Nat.le_refl n, hn⟩, trivial⟩
  | cons x xs ih =>
    obtain ⟨i, d⟩ := x
    simp only [Table.indicesFrom, Bool.and_eq_true, decide_eq_true_eq] at ht
    simp only [List.length_cons] at room
    by_cases h : n < i
    · have hn : n < 128 := by omega
      have hi : n + 1 ≤ i := h
      simp only [Table.insertFrom, if_pos h, Table.indicesFrom, Bool.and_eq_true, decide_eq_true_eq]
      exact ⟨⟨Nat.le_refl n, hn⟩, ⟨hi, ht.1.2⟩, ht.2⟩
    · have hi : i = n := by omega
      subst hi
      have := ih (i + 1) ht.2 (by omega)
      simp [Table.insertFrom, Table.indicesFrom, this, ht.1.2]

/-- Entering a claim adds one. -/
@[simp] theorem Table.length_insertFrom (c : Claim) (t : Table) (n : Nat) :
    (Table.insertFrom n c t).length = t.length + 1 := by
  induction t generalizing n with
  | nil => rfl
  | cons x xs ih => simp only [Table.insertFrom]; split <;> simp [ih]

/-- What stands in a table after a claim is entered. -/
theorem Table.mem_insertFrom (c : Claim) (t : Table) (n : Nat) (x : Nat × Claim) (h : x ∈ Table.insertFrom n c t) :
    x.2 = c ∨ x ∈ t := by
  induction t generalizing n with
  | nil => simp [Table.insertFrom] at h; exact .inl (by rw [h])
  | cons y ys ih =>
    simp only [Table.insertFrom] at h
    split at h
    · rcases List.mem_cons.1 h with h | h
      · exact .inl (by rw [h])
      · exact .inr h
    · rcases List.mem_cons.1 h with h | h
      · exact .inr (by simp [h])
      · rcases ih _ h with h | h
        · exact .inl h
        · exact .inr (List.mem_cons_of_mem _ h)

/-- A promotion keeps the indices rising. -/
theorem Table.indicesFrom_promote (t : Table) (i owner n : Nat) (ht : Table.indicesFrom n t = true) :
    Table.indicesFrom n (Table.promote t i owner) = true := by
  refine Table.indicesFrom_remove _ _ n ?_
  rw [show (t.map fun (j, c) => (j, if j = i then c.promoted else c))
      = t.map fun x => (x.1, if x.1 = i then x.2.promoted else x.2) from rfl, Table.indicesFrom_map]
  exact ht

/-- A promotion changes neither owner nor kind. -/
@[simp] theorem Claim.promoted_owner (c : Claim) : c.promoted.owner = c.owner := by
  unfold Claim.promoted; split <;> rfl

@[simp] theorem Claim.promoted_isSweep (c : Claim) : c.promoted.isSweep = c.isSweep := by
  obtain ⟨o, f, d, v, k⟩ := c; cases f <;> rfl

@[simp] theorem Claim.promoted_depth (c : Claim) : c.promoted.depth = c.depth := by
  unfold Claim.promoted; split <;> rfl

@[simp] theorem Claim.promoted_vertical (c : Claim) : c.promoted.vertical = c.vertical := by
  unfold Claim.promoted; split <;> rfl

/-- Taking claims out leaves one of a kind. -/
theorem Table.oneOfAKind_filter (p : Nat × Claim → Bool) (t : Table) (ht : Table.oneOfAKind t = true) :
    Table.oneOfAKind (t.filter p) = true := by
  induction t with
  | nil => rfl
  | cons x xs ih =>
    obtain ⟨i, c⟩ := x
    simp only [Table.oneOfAKind, Bool.and_eq_true, List.all_eq_true] at ht
    by_cases hp : p (i, c) = true
    · simp only [List.filter, hp, Table.oneOfAKind, Bool.and_eq_true, List.all_eq_true]
      exact ⟨fun y hy => ht.1 y (List.mem_filter.1 hy).1, ih ht.2⟩
    · simpa [List.filter, hp] using ih ht.2

/-- Removing claims leaves one of a kind. -/
theorem Table.oneOfAKind_remove (p : Claim → Bool) (t : Table) (ht : Table.oneOfAKind t = true) :
    Table.oneOfAKind (Table.remove t p) = true := Table.oneOfAKind_filter _ t ht

/-- A change that keeps every owner and kind leaves one of a kind. -/
theorem Table.oneOfAKind_map (g : Nat × Claim → Claim) (owners : ∀ x, (g x).owner = x.2.owner)
    (kinds : ∀ x, (g x).isSweep = x.2.isSweep) (t : Table) :
    Table.oneOfAKind (t.map fun x => (x.1, g x)) = Table.oneOfAKind t := by
  induction t with
  | nil => rfl
  | cons x xs ih => simp [Table.oneOfAKind, ih, owners, kinds, List.all_map, Function.comp_def]

/-- A promotion leaves one of a kind. -/
theorem Table.oneOfAKind_promote (t : Table) (i owner : Nat) (ht : Table.oneOfAKind t = true) :
    Table.oneOfAKind (Table.promote t i owner) = true := by
  refine Table.oneOfAKind_remove _ _ ?_
  rw [show (t.map fun (j, c) => (j, if j = i then c.promoted else c))
      = t.map fun x => (x.1, if x.1 = i then x.2.promoted else x.2) from rfl,
    Table.oneOfAKind_map _ (fun x => by split <;> simp) (fun x => by split <;> simp)]
  exact ht

/-- A claim entered where its owner has none of its kind leaves one of a kind. -/
theorem Table.oneOfAKind_insertFrom (c : Claim) (t : Table) (n : Nat) (ht : Table.oneOfAKind t = true)
    (fresh : ∀ x ∈ t, ¬(x.2.owner = c.owner ∧ x.2.isSweep = c.isSweep)) :
    Table.oneOfAKind (Table.insertFrom n c t) = true := by
  induction t generalizing n with
  | nil => rfl
  | cons y ys ih =>
    obtain ⟨i, d⟩ := y
    have hall : ∀ x ∈ (i, d) :: ys, (!(c.owner == x.2.owner && c.isSweep == x.2.isSweep)) = true := by
      intro x hx
      have := fresh x hx
      simp only [Bool.not_eq_true', Bool.and_eq_false_iff, beq_eq_false_iff_ne]
      by_cases ho : c.owner = x.2.owner
      · exact .inr fun hk => this ⟨ho.symm, hk.symm⟩
      · exact .inl ho
    simp only [Table.insertFrom]
    split
    · simp only [Table.oneOfAKind, Bool.and_eq_true, List.all_eq_true]
      simp only [Table.oneOfAKind, Bool.and_eq_true, List.all_eq_true] at ht
      exact ⟨hall, ht⟩
    · simp only [Table.oneOfAKind, Bool.and_eq_true, List.all_eq_true] at ht ⊢
      refine ⟨fun x hx => ?_, ih _ ht.2 fun x hx => fresh x (List.mem_cons_of_mem _ hx)⟩
      rcases Table.mem_insertFrom c ys _ x hx with h | h
      · have := hall (i, d) (by simp)
        rw [h, BEq.comm (a := d.owner), BEq.comm (a := d.isSweep)]
        exact this
      · exact ht.1 x h

/-- One round of the pass keeps whatever every promotion keeps. -/
theorem passRound_keeps (conflict : Claim → Claim → Bool) (P : Table → Prop)
    (promotes : ∀ t i owner, P t → P (Table.promote t i owner)) (order : Table) (t : Table) (h : P t) :
    P (passRound conflict t order) := by
  induction order generalizing t with
  | nil => exact h
  | cons x xs ih =>
    obtain ⟨i, c⟩ := x
    simp only [passRound]
    split
    · exact ih _ (promotes _ _ _ h)
    · exact ih _ h

/-- The pass keeps whatever every promotion keeps. -/
theorem Table.pass_keeps (conflict : Claim → Claim → Bool) (P : Table → Prop)
    (promotes : ∀ t i owner, P t → P (Table.promote t i owner)) (t : Table) (h : P t) : P (Table.pass conflict t) := by
  unfold Table.pass
  generalize (t.waitingByRank.length + 1) = rounds
  induction rounds generalizing t with
  | zero => exact h
  | succ n ih =>
    simp only [passRounds]
    have hr := passRound_keeps conflict P promotes t.waitingByRank t h
    split
    · exact h
    · exact ih _ hr

/-- A pass over a table in its form leaves one in its form. -/
theorem Table.pass_form (conflict : Claim → Claim → Bool) (t : Table) (hi : Table.indicesFrom 0 t = true)
    (ho : Table.oneOfAKind t = true) :
    Table.indicesFrom 0 (Table.pass conflict t) = true ∧ Table.oneOfAKind (Table.pass conflict t) = true :=
  Table.pass_keeps conflict (fun t => Table.indicesFrom 0 t = true ∧ Table.oneOfAKind t = true)
    (fun t i owner h => ⟨Table.indicesFrom_promote t i owner 0 h.1, Table.oneOfAKind_promote t i owner h.2⟩) t ⟨hi, ho⟩

end Sys2Proof.Machine
end

