-- ==== Sys2Proof/Laws/State.lean ====
section
/-! SUPPORT. One lemma for each field of State and each named update: the field an update writes holds the new value, and
every other field stays. No later proof unfolds a record update. -/

namespace Sys2Proof.Machine

@[simp] theorem State.setFlag_now (s : State) (f : Flag) : (s.setFlag f).now = s.now := rfl
@[simp] theorem State.setFlag_free (s : State) (f : Flag) : (s.setFlag f).free = s.free := rfl
@[simp] theorem State.setFlag_cfg (s : State) (f : Flag) : (s.setFlag f).cfg = s.cfg := rfl
@[simp] theorem State.setFlag_stop (s : State) (f : Flag) : (s.setFlag f).stop = s.stop := rfl
@[simp] theorem State.setFlag_claims (s : State) (f : Flag) : (s.setFlag f).claims = s.claims := rfl
@[simp] theorem State.setFlag_dir (s : State) (f : Flag) : (s.setFlag f).dir = s.dir := rfl
@[simp] theorem State.setFlag_cue (s : State) (f : Flag) : (s.setFlag f).cue = s.cue := rfl
@[simp] theorem State.setFlag_exe (s : State) (f : Flag) : (s.setFlag f).exe = s.exe := rfl
@[simp] theorem State.setFlag_drive (s : State) (f : Flag) : (s.setFlag f).drive = s.drive := rfl
@[simp] theorem State.setFlag_dec (s : State) (f : Flag) : (s.setFlag f).dec = s.dec := rfl
@[simp] theorem State.setFlag_tx (s : State) (f : Flag) : (s.setFlag f).tx = s.tx := rfl
@[simp] theorem State.setFlag_laneA (s : State) (f : Flag) : (s.setFlag f).laneA = s.laneA := rfl
@[simp] theorem State.setFlag_laneB (s : State) (f : Flag) : (s.setFlag f).laneB = s.laneB := rfl
@[simp] theorem State.setFlag_merger (s : State) (f : Flag) : (s.setFlag f).merger = s.merger := rfl
@[simp] theorem State.setFlag_counters (s : State) (f : Flag) : (s.setFlag f).counters = s.counters := rfl
@[simp] theorem State.setFlag_pending (s : State) (f : Flag) : (s.setFlag f).pending = s.pending := rfl

@[simp] theorem State.count_now (s : State) (c : Counter) (n : Nat) : (s.count c n).now = s.now := rfl
@[simp] theorem State.count_free (s : State) (c : Counter) (n : Nat) : (s.count c n).free = s.free := rfl
@[simp] theorem State.count_cfg (s : State) (c : Counter) (n : Nat) : (s.count c n).cfg = s.cfg := rfl
@[simp] theorem State.count_stop (s : State) (c : Counter) (n : Nat) : (s.count c n).stop = s.stop := rfl
@[simp] theorem State.count_claims (s : State) (c : Counter) (n : Nat) : (s.count c n).claims = s.claims := rfl
@[simp] theorem State.count_dir (s : State) (c : Counter) (n : Nat) : (s.count c n).dir = s.dir := rfl
@[simp] theorem State.count_cue (s : State) (c : Counter) (n : Nat) : (s.count c n).cue = s.cue := rfl
@[simp] theorem State.count_exe (s : State) (c : Counter) (n : Nat) : (s.count c n).exe = s.exe := rfl
@[simp] theorem State.count_drive (s : State) (c : Counter) (n : Nat) : (s.count c n).drive = s.drive := rfl
@[simp] theorem State.count_dec (s : State) (c : Counter) (n : Nat) : (s.count c n).dec = s.dec := rfl
@[simp] theorem State.count_tx (s : State) (c : Counter) (n : Nat) : (s.count c n).tx = s.tx := rfl
@[simp] theorem State.count_laneA (s : State) (c : Counter) (n : Nat) : (s.count c n).laneA = s.laneA := rfl
@[simp] theorem State.count_laneB (s : State) (c : Counter) (n : Nat) : (s.count c n).laneB = s.laneB := rfl
@[simp] theorem State.count_merger (s : State) (c : Counter) (n : Nat) : (s.count c n).merger = s.merger := rfl
@[simp] theorem State.count_port (s : State) (c : Counter) (n : Nat) : (s.count c n).port = s.port := rfl
@[simp] theorem State.count_counters (s : State) (c : Counter) (n : Nat) : (s.count c n).counters = s.counters.set c.number (saturate16 (s.counter c) n) := rfl
@[simp] theorem State.count_pending (s : State) (c : Counter) (n : Nat) : (s.count c n).pending = s.pending := rfl

@[simp] theorem State.bump_now (s : State) (c : Counter) : (s.bump c).now = s.now := rfl
@[simp] theorem State.bump_free (s : State) (c : Counter) : (s.bump c).free = s.free := rfl
@[simp] theorem State.bump_cfg (s : State) (c : Counter) : (s.bump c).cfg = s.cfg := rfl
@[simp] theorem State.bump_stop (s : State) (c : Counter) : (s.bump c).stop = s.stop := rfl
@[simp] theorem State.bump_claims (s : State) (c : Counter) : (s.bump c).claims = s.claims := rfl
@[simp] theorem State.bump_dir (s : State) (c : Counter) : (s.bump c).dir = s.dir := rfl
@[simp] theorem State.bump_cue (s : State) (c : Counter) : (s.bump c).cue = s.cue := rfl
@[simp] theorem State.bump_exe (s : State) (c : Counter) : (s.bump c).exe = s.exe := rfl
@[simp] theorem State.bump_drive (s : State) (c : Counter) : (s.bump c).drive = s.drive := rfl
@[simp] theorem State.bump_dec (s : State) (c : Counter) : (s.bump c).dec = s.dec := rfl
@[simp] theorem State.bump_tx (s : State) (c : Counter) : (s.bump c).tx = s.tx := rfl
@[simp] theorem State.bump_laneA (s : State) (c : Counter) : (s.bump c).laneA = s.laneA := rfl
@[simp] theorem State.bump_laneB (s : State) (c : Counter) : (s.bump c).laneB = s.laneB := rfl
@[simp] theorem State.bump_merger (s : State) (c : Counter) : (s.bump c).merger = s.merger := rfl
@[simp] theorem State.bump_port (s : State) (c : Counter) : (s.bump c).port = s.port := rfl
@[simp] theorem State.bump_counters (s : State) (c : Counter) : (s.bump c).counters = s.counters.set c.number (saturate16 (s.counter c) 1) := rfl
@[simp] theorem State.bump_pending (s : State) (c : Counter) : (s.bump c).pending = s.pending := rfl

@[simp] theorem State.drawn_now (s : State) : (s.drawn).now = s.now := rfl
@[simp] theorem State.drawn_free (s : State) : (s.drawn).free = s.free + 1 := rfl
@[simp] theorem State.drawn_cfg (s : State) : (s.drawn).cfg = s.cfg := rfl
@[simp] theorem State.drawn_stop (s : State) : (s.drawn).stop = s.stop := rfl
@[simp] theorem State.drawn_claims (s : State) : (s.drawn).claims = s.claims := rfl
@[simp] theorem State.drawn_dir (s : State) : (s.drawn).dir = s.dir := rfl
@[simp] theorem State.drawn_cue (s : State) : (s.drawn).cue = s.cue := rfl
@[simp] theorem State.drawn_exe (s : State) : (s.drawn).exe = s.exe := rfl
@[simp] theorem State.drawn_drive (s : State) : (s.drawn).drive = s.drive := rfl
@[simp] theorem State.drawn_dec (s : State) : (s.drawn).dec = s.dec := rfl
@[simp] theorem State.drawn_tx (s : State) : (s.drawn).tx = s.tx := rfl
@[simp] theorem State.drawn_laneA (s : State) : (s.drawn).laneA = s.laneA := rfl
@[simp] theorem State.drawn_laneB (s : State) : (s.drawn).laneB = s.laneB := rfl
@[simp] theorem State.drawn_merger (s : State) : (s.drawn).merger = s.merger := rfl
@[simp] theorem State.drawn_port (s : State) : (s.drawn).port = s.port := rfl
@[simp] theorem State.drawn_counters (s : State) : (s.drawn).counters = s.counters := rfl
@[simp] theorem State.drawn_pending (s : State) : (s.drawn).pending = s.pending := rfl

@[simp] theorem State.advanceTo_now (s : State) (t : Nat) : (s.advanceTo t).now = max s.now t := rfl
@[simp] theorem State.advanceTo_free (s : State) (t : Nat) : (s.advanceTo t).free = s.free := rfl
@[simp] theorem State.advanceTo_cfg (s : State) (t : Nat) : (s.advanceTo t).cfg = s.cfg := rfl
@[simp] theorem State.advanceTo_stop (s : State) (t : Nat) : (s.advanceTo t).stop = s.stop := rfl
@[simp] theorem State.advanceTo_claims (s : State) (t : Nat) : (s.advanceTo t).claims = s.claims := rfl
@[simp] theorem State.advanceTo_dir (s : State) (t : Nat) : (s.advanceTo t).dir = s.dir := rfl
@[simp] theorem State.advanceTo_cue (s : State) (t : Nat) : (s.advanceTo t).cue = s.cue := rfl
@[simp] theorem State.advanceTo_drive (s : State) (t : Nat) : (s.advanceTo t).drive = s.drive := rfl
@[simp] theorem State.advanceTo_dec (s : State) (t : Nat) : (s.advanceTo t).dec = s.dec := rfl
@[simp] theorem State.advanceTo_tx (s : State) (t : Nat) : (s.advanceTo t).tx = s.tx := rfl
@[simp] theorem State.advanceTo_laneA (s : State) (t : Nat) : (s.advanceTo t).laneA = s.laneA := rfl
@[simp] theorem State.advanceTo_laneB (s : State) (t : Nat) : (s.advanceTo t).laneB = s.laneB := rfl
@[simp] theorem State.advanceTo_merger (s : State) (t : Nat) : (s.advanceTo t).merger = s.merger := rfl
@[simp] theorem State.advanceTo_port (s : State) (t : Nat) : (s.advanceTo t).port = s.port := rfl
@[simp] theorem State.advanceTo_counters (s : State) (t : Nat) : (s.advanceTo t).counters = s.counters := rfl
@[simp] theorem State.advanceTo_pending (s : State) (t : Nat) : (s.advanceTo t).pending = s.pending := rfl

@[simp] theorem State.mapExe_now (s : State) (g : Executor → Executor) : (s.mapExe g).now = s.now := rfl
@[simp] theorem State.mapExe_free (s : State) (g : Executor → Executor) : (s.mapExe g).free = s.free := rfl
@[simp] theorem State.mapExe_cfg (s : State) (g : Executor → Executor) : (s.mapExe g).cfg = s.cfg := rfl
@[simp] theorem State.mapExe_stop (s : State) (g : Executor → Executor) : (s.mapExe g).stop = s.stop := rfl
@[simp] theorem State.mapExe_claims (s : State) (g : Executor → Executor) : (s.mapExe g).claims = s.claims := rfl
@[simp] theorem State.mapExe_dir (s : State) (g : Executor → Executor) : (s.mapExe g).dir = s.dir := rfl
@[simp] theorem State.mapExe_cue (s : State) (g : Executor → Executor) : (s.mapExe g).cue = s.cue := rfl
@[simp] theorem State.mapExe_exe (s : State) (g : Executor → Executor) : (s.mapExe g).exe = g s.exe := rfl
@[simp] theorem State.mapExe_drive (s : State) (g : Executor → Executor) : (s.mapExe g).drive = s.drive := rfl
@[simp] theorem State.mapExe_dec (s : State) (g : Executor → Executor) : (s.mapExe g).dec = s.dec := rfl
@[simp] theorem State.mapExe_tx (s : State) (g : Executor → Executor) : (s.mapExe g).tx = s.tx := rfl
@[simp] theorem State.mapExe_laneA (s : State) (g : Executor → Executor) : (s.mapExe g).laneA = s.laneA := rfl
@[simp] theorem State.mapExe_laneB (s : State) (g : Executor → Executor) : (s.mapExe g).laneB = s.laneB := rfl
@[simp] theorem State.mapExe_merger (s : State) (g : Executor → Executor) : (s.mapExe g).merger = s.merger := rfl
@[simp] theorem State.mapExe_port (s : State) (g : Executor → Executor) : (s.mapExe g).port = s.port := rfl
@[simp] theorem State.mapExe_counters (s : State) (g : Executor → Executor) : (s.mapExe g).counters = s.counters := rfl
@[simp] theorem State.mapExe_pending (s : State) (g : Executor → Executor) : (s.mapExe g).pending = s.pending := rfl

@[simp] theorem State.mapRaised_now (s : State) (g : RaisedMarks → RaisedMarks) : (s.mapRaised g).now = s.now := rfl
@[simp] theorem State.mapRaised_free (s : State) (g : RaisedMarks → RaisedMarks) : (s.mapRaised g).free = s.free := rfl
@[simp] theorem State.mapRaised_cfg (s : State) (g : RaisedMarks → RaisedMarks) : (s.mapRaised g).cfg = s.cfg := rfl
@[simp] theorem State.mapRaised_stop (s : State) (g : RaisedMarks → RaisedMarks) : (s.mapRaised g).stop = s.stop := rfl
@[simp] theorem State.mapRaised_claims (s : State) (g : RaisedMarks → RaisedMarks) : (s.mapRaised g).claims = s.claims := rfl
@[simp] theorem State.mapRaised_dir (s : State) (g : RaisedMarks → RaisedMarks) : (s.mapRaised g).dir = s.dir := rfl
@[simp] theorem State.mapRaised_cue (s : State) (g : RaisedMarks → RaisedMarks) : (s.mapRaised g).cue = s.cue := rfl
@[simp] theorem State.mapRaised_exe (s : State) (g : RaisedMarks → RaisedMarks) : (s.mapRaised g).exe = { s.exe with raised := g s.exe.raised } := rfl
@[simp] theorem State.mapRaised_drive (s : State) (g : RaisedMarks → RaisedMarks) : (s.mapRaised g).drive = s.drive := rfl
@[simp] theorem State.mapRaised_dec (s : State) (g : RaisedMarks → RaisedMarks) : (s.mapRaised g).dec = s.dec := rfl
@[simp] theorem State.mapRaised_tx (s : State) (g : RaisedMarks → RaisedMarks) : (s.mapRaised g).tx = s.tx := rfl
@[simp] theorem State.mapRaised_laneA (s : State) (g : RaisedMarks → RaisedMarks) : (s.mapRaised g).laneA = s.laneA := rfl
@[simp] theorem State.mapRaised_laneB (s : State) (g : RaisedMarks → RaisedMarks) : (s.mapRaised g).laneB = s.laneB := rfl
@[simp] theorem State.mapRaised_merger (s : State) (g : RaisedMarks → RaisedMarks) : (s.mapRaised g).merger = s.merger := rfl
@[simp] theorem State.mapRaised_port (s : State) (g : RaisedMarks → RaisedMarks) : (s.mapRaised g).port = s.port := rfl
@[simp] theorem State.mapRaised_counters (s : State) (g : RaisedMarks → RaisedMarks) : (s.mapRaised g).counters = s.counters := rfl
@[simp] theorem State.mapRaised_pending (s : State) (g : RaisedMarks → RaisedMarks) : (s.mapRaised g).pending = s.pending := rfl

@[simp] theorem State.mapCue_now (s : State) (g : CueEngine → CueEngine) : (s.mapCue g).now = s.now := rfl
@[simp] theorem State.mapCue_free (s : State) (g : CueEngine → CueEngine) : (s.mapCue g).free = s.free := rfl
@[simp] theorem State.mapCue_cfg (s : State) (g : CueEngine → CueEngine) : (s.mapCue g).cfg = s.cfg := rfl
@[simp] theorem State.mapCue_stop (s : State) (g : CueEngine → CueEngine) : (s.mapCue g).stop = s.stop := rfl
@[simp] theorem State.mapCue_claims (s : State) (g : CueEngine → CueEngine) : (s.mapCue g).claims = s.claims := rfl
@[simp] theorem State.mapCue_dir (s : State) (g : CueEngine → CueEngine) : (s.mapCue g).dir = s.dir := rfl
@[simp] theorem State.mapCue_cue (s : State) (g : CueEngine → CueEngine) : (s.mapCue g).cue = g s.cue := rfl
@[simp] theorem State.mapCue_exe (s : State) (g : CueEngine → CueEngine) : (s.mapCue g).exe = s.exe := rfl
@[simp] theorem State.mapCue_drive (s : State) (g : CueEngine → CueEngine) : (s.mapCue g).drive = s.drive := rfl
@[simp] theorem State.mapCue_dec (s : State) (g : CueEngine → CueEngine) : (s.mapCue g).dec = s.dec := rfl
@[simp] theorem State.mapCue_tx (s : State) (g : CueEngine → CueEngine) : (s.mapCue g).tx = s.tx := rfl
@[simp] theorem State.mapCue_laneA (s : State) (g : CueEngine → CueEngine) : (s.mapCue g).laneA = s.laneA := rfl
@[simp] theorem State.mapCue_laneB (s : State) (g : CueEngine → CueEngine) : (s.mapCue g).laneB = s.laneB := rfl
@[simp] theorem State.mapCue_merger (s : State) (g : CueEngine → CueEngine) : (s.mapCue g).merger = s.merger := rfl
@[simp] theorem State.mapCue_port (s : State) (g : CueEngine → CueEngine) : (s.mapCue g).port = s.port := rfl
@[simp] theorem State.mapCue_counters (s : State) (g : CueEngine → CueEngine) : (s.mapCue g).counters = s.counters := rfl
@[simp] theorem State.mapCue_pending (s : State) (g : CueEngine → CueEngine) : (s.mapCue g).pending = s.pending := rfl

@[simp] theorem State.mapDrive_now (s : State) (g : DrivePort → DrivePort) : (s.mapDrive g).now = s.now := rfl
@[simp] theorem State.mapDrive_free (s : State) (g : DrivePort → DrivePort) : (s.mapDrive g).free = s.free := rfl
@[simp] theorem State.mapDrive_cfg (s : State) (g : DrivePort → DrivePort) : (s.mapDrive g).cfg = s.cfg := rfl
@[simp] theorem State.mapDrive_stop (s : State) (g : DrivePort → DrivePort) : (s.mapDrive g).stop = s.stop := rfl
@[simp] theorem State.mapDrive_claims (s : State) (g : DrivePort → DrivePort) : (s.mapDrive g).claims = s.claims := rfl
@[simp] theorem State.mapDrive_dir (s : State) (g : DrivePort → DrivePort) : (s.mapDrive g).dir = s.dir := rfl
@[simp] theorem State.mapDrive_cue (s : State) (g : DrivePort → DrivePort) : (s.mapDrive g).cue = s.cue := rfl
@[simp] theorem State.mapDrive_exe (s : State) (g : DrivePort → DrivePort) : (s.mapDrive g).exe = s.exe := rfl
@[simp] theorem State.mapDrive_drive (s : State) (g : DrivePort → DrivePort) : (s.mapDrive g).drive = g s.drive := rfl
@[simp] theorem State.mapDrive_dec (s : State) (g : DrivePort → DrivePort) : (s.mapDrive g).dec = s.dec := rfl
@[simp] theorem State.mapDrive_tx (s : State) (g : DrivePort → DrivePort) : (s.mapDrive g).tx = s.tx := rfl
@[simp] theorem State.mapDrive_laneA (s : State) (g : DrivePort → DrivePort) : (s.mapDrive g).laneA = s.laneA := rfl
@[simp] theorem State.mapDrive_laneB (s : State) (g : DrivePort → DrivePort) : (s.mapDrive g).laneB = s.laneB := rfl
@[simp] theorem State.mapDrive_merger (s : State) (g : DrivePort → DrivePort) : (s.mapDrive g).merger = s.merger := rfl
@[simp] theorem State.mapDrive_port (s : State) (g : DrivePort → DrivePort) : (s.mapDrive g).port = s.port := rfl
@[simp] theorem State.mapDrive_counters (s : State) (g : DrivePort → DrivePort) : (s.mapDrive g).counters = s.counters := rfl
@[simp] theorem State.mapDrive_pending (s : State) (g : DrivePort → DrivePort) : (s.mapDrive g).pending = s.pending := rfl

@[simp] theorem State.mapPort_now (s : State) (g : ControllerPort → ControllerPort) : (s.mapPort g).now = s.now := rfl
@[simp] theorem State.mapPort_free (s : State) (g : ControllerPort → ControllerPort) : (s.mapPort g).free = s.free := rfl
@[simp] theorem State.mapPort_cfg (s : State) (g : ControllerPort → ControllerPort) : (s.mapPort g).cfg = s.cfg := rfl
@[simp] theorem State.mapPort_stop (s : State) (g : ControllerPort → ControllerPort) : (s.mapPort g).stop = s.stop := rfl
@[simp] theorem State.mapPort_claims (s : State) (g : ControllerPort → ControllerPort) : (s.mapPort g).claims = s.claims := rfl
@[simp] theorem State.mapPort_dir (s : State) (g : ControllerPort → ControllerPort) : (s.mapPort g).dir = s.dir := rfl
@[simp] theorem State.mapPort_cue (s : State) (g : ControllerPort → ControllerPort) : (s.mapPort g).cue = s.cue := rfl
@[simp] theorem State.mapPort_exe (s : State) (g : ControllerPort → ControllerPort) : (s.mapPort g).exe = s.exe := rfl
@[simp] theorem State.mapPort_drive (s : State) (g : ControllerPort → ControllerPort) : (s.mapPort g).drive = s.drive := rfl
@[simp] theorem State.mapPort_dec (s : State) (g : ControllerPort → ControllerPort) : (s.mapPort g).dec = s.dec := rfl
@[simp] theorem State.mapPort_tx (s : State) (g : ControllerPort → ControllerPort) : (s.mapPort g).tx = s.tx := rfl
@[simp] theorem State.mapPort_laneA (s : State) (g : ControllerPort → ControllerPort) : (s.mapPort g).laneA = s.laneA := rfl
@[simp] theorem State.mapPort_laneB (s : State) (g : ControllerPort → ControllerPort) : (s.mapPort g).laneB = s.laneB := rfl
@[simp] theorem State.mapPort_merger (s : State) (g : ControllerPort → ControllerPort) : (s.mapPort g).merger = s.merger := rfl
@[simp] theorem State.mapPort_port (s : State) (g : ControllerPort → ControllerPort) : (s.mapPort g).port = g s.port := rfl
@[simp] theorem State.mapPort_counters (s : State) (g : ControllerPort → ControllerPort) : (s.mapPort g).counters = s.counters := rfl
@[simp] theorem State.mapPort_pending (s : State) (g : ControllerPort → ControllerPort) : (s.mapPort g).pending = s.pending := rfl

@[simp] theorem State.mapMailbox_now (s : State) (g : Mailbox → Mailbox) : (s.mapMailbox g).now = s.now := rfl
@[simp] theorem State.mapMailbox_free (s : State) (g : Mailbox → Mailbox) : (s.mapMailbox g).free = s.free := rfl
@[simp] theorem State.mapMailbox_cfg (s : State) (g : Mailbox → Mailbox) : (s.mapMailbox g).cfg = s.cfg := rfl
@[simp] theorem State.mapMailbox_stop (s : State) (g : Mailbox → Mailbox) : (s.mapMailbox g).stop = s.stop := rfl
@[simp] theorem State.mapMailbox_claims (s : State) (g : Mailbox → Mailbox) : (s.mapMailbox g).claims = s.claims := rfl
@[simp] theorem State.mapMailbox_dir (s : State) (g : Mailbox → Mailbox) : (s.mapMailbox g).dir = s.dir := rfl
@[simp] theorem State.mapMailbox_cue (s : State) (g : Mailbox → Mailbox) : (s.mapMailbox g).cue = s.cue := rfl
@[simp] theorem State.mapMailbox_exe (s : State) (g : Mailbox → Mailbox) : (s.mapMailbox g).exe = s.exe := rfl
@[simp] theorem State.mapMailbox_drive (s : State) (g : Mailbox → Mailbox) : (s.mapMailbox g).drive = s.drive := rfl
@[simp] theorem State.mapMailbox_dec (s : State) (g : Mailbox → Mailbox) : (s.mapMailbox g).dec = s.dec := rfl
@[simp] theorem State.mapMailbox_tx (s : State) (g : Mailbox → Mailbox) : (s.mapMailbox g).tx = s.tx := rfl
@[simp] theorem State.mapMailbox_laneA (s : State) (g : Mailbox → Mailbox) : (s.mapMailbox g).laneA = s.laneA := rfl
@[simp] theorem State.mapMailbox_laneB (s : State) (g : Mailbox → Mailbox) : (s.mapMailbox g).laneB = s.laneB := rfl
@[simp] theorem State.mapMailbox_merger (s : State) (g : Mailbox → Mailbox) : (s.mapMailbox g).merger = s.merger := rfl
@[simp] theorem State.mapMailbox_port (s : State) (g : Mailbox → Mailbox) : (s.mapMailbox g).port = { s.port with mailbox := g s.port.mailbox } := rfl
@[simp] theorem State.mapMailbox_counters (s : State) (g : Mailbox → Mailbox) : (s.mapMailbox g).counters = s.counters := rfl
@[simp] theorem State.mapMailbox_pending (s : State) (g : Mailbox → Mailbox) : (s.mapMailbox g).pending = s.pending := rfl

@[simp] theorem State.mapTx_now (s : State) (g : Transmitter → Transmitter) : (s.mapTx g).now = s.now := rfl
@[simp] theorem State.mapTx_free (s : State) (g : Transmitter → Transmitter) : (s.mapTx g).free = s.free := rfl
@[simp] theorem State.mapTx_cfg (s : State) (g : Transmitter → Transmitter) : (s.mapTx g).cfg = s.cfg := rfl
@[simp] theorem State.mapTx_stop (s : State) (g : Transmitter → Transmitter) : (s.mapTx g).stop = s.stop := rfl
@[simp] theorem State.mapTx_claims (s : State) (g : Transmitter → Transmitter) : (s.mapTx g).claims = s.claims := rfl
@[simp] theorem State.mapTx_dir (s : State) (g : Transmitter → Transmitter) : (s.mapTx g).dir = s.dir := rfl
@[simp] theorem State.mapTx_cue (s : State) (g : Transmitter → Transmitter) : (s.mapTx g).cue = s.cue := rfl
@[simp] theorem State.mapTx_exe (s : State) (g : Transmitter → Transmitter) : (s.mapTx g).exe = s.exe := rfl
@[simp] theorem State.mapTx_drive (s : State) (g : Transmitter → Transmitter) : (s.mapTx g).drive = s.drive := rfl
@[simp] theorem State.mapTx_dec (s : State) (g : Transmitter → Transmitter) : (s.mapTx g).dec = s.dec := rfl
@[simp] theorem State.mapTx_tx (s : State) (g : Transmitter → Transmitter) : (s.mapTx g).tx = g s.tx := rfl
@[simp] theorem State.mapTx_laneA (s : State) (g : Transmitter → Transmitter) : (s.mapTx g).laneA = s.laneA := rfl
@[simp] theorem State.mapTx_laneB (s : State) (g : Transmitter → Transmitter) : (s.mapTx g).laneB = s.laneB := rfl
@[simp] theorem State.mapTx_merger (s : State) (g : Transmitter → Transmitter) : (s.mapTx g).merger = s.merger := rfl
@[simp] theorem State.mapTx_port (s : State) (g : Transmitter → Transmitter) : (s.mapTx g).port = s.port := rfl
@[simp] theorem State.mapTx_counters (s : State) (g : Transmitter → Transmitter) : (s.mapTx g).counters = s.counters := rfl
@[simp] theorem State.mapTx_pending (s : State) (g : Transmitter → Transmitter) : (s.mapTx g).pending = s.pending := rfl

@[simp] theorem State.mapMerger_now (s : State) (g : Merger → Merger) : (s.mapMerger g).now = s.now := rfl
@[simp] theorem State.mapMerger_free (s : State) (g : Merger → Merger) : (s.mapMerger g).free = s.free := rfl
@[simp] theorem State.mapMerger_cfg (s : State) (g : Merger → Merger) : (s.mapMerger g).cfg = s.cfg := rfl
@[simp] theorem State.mapMerger_stop (s : State) (g : Merger → Merger) : (s.mapMerger g).stop = s.stop := rfl
@[simp] theorem State.mapMerger_claims (s : State) (g : Merger → Merger) : (s.mapMerger g).claims = s.claims := rfl
@[simp] theorem State.mapMerger_dir (s : State) (g : Merger → Merger) : (s.mapMerger g).dir = s.dir := rfl
@[simp] theorem State.mapMerger_cue (s : State) (g : Merger → Merger) : (s.mapMerger g).cue = s.cue := rfl
@[simp] theorem State.mapMerger_exe (s : State) (g : Merger → Merger) : (s.mapMerger g).exe = s.exe := rfl
@[simp] theorem State.mapMerger_drive (s : State) (g : Merger → Merger) : (s.mapMerger g).drive = s.drive := rfl
@[simp] theorem State.mapMerger_dec (s : State) (g : Merger → Merger) : (s.mapMerger g).dec = s.dec := rfl
@[simp] theorem State.mapMerger_tx (s : State) (g : Merger → Merger) : (s.mapMerger g).tx = s.tx := rfl
@[simp] theorem State.mapMerger_laneA (s : State) (g : Merger → Merger) : (s.mapMerger g).laneA = s.laneA := rfl
@[simp] theorem State.mapMerger_laneB (s : State) (g : Merger → Merger) : (s.mapMerger g).laneB = s.laneB := rfl
@[simp] theorem State.mapMerger_merger (s : State) (g : Merger → Merger) : (s.mapMerger g).merger = g s.merger := rfl
@[simp] theorem State.mapMerger_port (s : State) (g : Merger → Merger) : (s.mapMerger g).port = s.port := rfl
@[simp] theorem State.mapMerger_counters (s : State) (g : Merger → Merger) : (s.mapMerger g).counters = s.counters := rfl
@[simp] theorem State.mapMerger_pending (s : State) (g : Merger → Merger) : (s.mapMerger g).pending = s.pending := rfl

@[simp] theorem State.mapEntry_now (s : State) (n : Nat) (g : Entry → Entry) : (s.mapEntry n g).now = s.now := rfl
@[simp] theorem State.mapEntry_free (s : State) (n : Nat) (g : Entry → Entry) : (s.mapEntry n g).free = s.free := rfl
@[simp] theorem State.mapEntry_cfg (s : State) (n : Nat) (g : Entry → Entry) : (s.mapEntry n g).cfg = s.cfg := rfl
@[simp] theorem State.mapEntry_stop (s : State) (n : Nat) (g : Entry → Entry) : (s.mapEntry n g).stop = s.stop := rfl
@[simp] theorem State.mapEntry_claims (s : State) (n : Nat) (g : Entry → Entry) : (s.mapEntry n g).claims = s.claims := rfl
@[simp] theorem State.mapEntry_cue (s : State) (n : Nat) (g : Entry → Entry) : (s.mapEntry n g).cue = s.cue := rfl
@[simp] theorem State.mapEntry_exe (s : State) (n : Nat) (g : Entry → Entry) : (s.mapEntry n g).exe = s.exe := rfl
@[simp] theorem State.mapEntry_drive (s : State) (n : Nat) (g : Entry → Entry) : (s.mapEntry n g).drive = s.drive := rfl
@[simp] theorem State.mapEntry_dec (s : State) (n : Nat) (g : Entry → Entry) : (s.mapEntry n g).dec = s.dec := rfl
@[simp] theorem State.mapEntry_tx (s : State) (n : Nat) (g : Entry → Entry) : (s.mapEntry n g).tx = s.tx := rfl
@[simp] theorem State.mapEntry_laneA (s : State) (n : Nat) (g : Entry → Entry) : (s.mapEntry n g).laneA = s.laneA := rfl
@[simp] theorem State.mapEntry_laneB (s : State) (n : Nat) (g : Entry → Entry) : (s.mapEntry n g).laneB = s.laneB := rfl
@[simp] theorem State.mapEntry_merger (s : State) (n : Nat) (g : Entry → Entry) : (s.mapEntry n g).merger = s.merger := rfl
@[simp] theorem State.mapEntry_port (s : State) (n : Nat) (g : Entry → Entry) : (s.mapEntry n g).port = s.port := rfl
@[simp] theorem State.mapEntry_counters (s : State) (n : Nat) (g : Entry → Entry) : (s.mapEntry n g).counters = s.counters := rfl
@[simp] theorem State.mapEntry_pending (s : State) (n : Nat) (g : Entry → Entry) : (s.mapEntry n g).pending = s.pending := rfl

@[simp] theorem State.withTable_now (s : State) (t : Table) : (s.withTable t).now = s.now := rfl
@[simp] theorem State.withTable_free (s : State) (t : Table) : (s.withTable t).free = s.free := rfl
@[simp] theorem State.withTable_cfg (s : State) (t : Table) : (s.withTable t).cfg = s.cfg := rfl
@[simp] theorem State.withTable_stop (s : State) (t : Table) : (s.withTable t).stop = s.stop := rfl
@[simp] theorem State.withTable_claims (s : State) (t : Table) : (s.withTable t).claims = { s.claims with table := t } := rfl
@[simp] theorem State.withTable_dir (s : State) (t : Table) : (s.withTable t).dir = s.dir := rfl
@[simp] theorem State.withTable_cue (s : State) (t : Table) : (s.withTable t).cue = s.cue := rfl
@[simp] theorem State.withTable_exe (s : State) (t : Table) : (s.withTable t).exe = s.exe := rfl
@[simp] theorem State.withTable_drive (s : State) (t : Table) : (s.withTable t).drive = s.drive := rfl
@[simp] theorem State.withTable_dec (s : State) (t : Table) : (s.withTable t).dec = s.dec := rfl
@[simp] theorem State.withTable_tx (s : State) (t : Table) : (s.withTable t).tx = s.tx := rfl
@[simp] theorem State.withTable_laneA (s : State) (t : Table) : (s.withTable t).laneA = s.laneA := rfl
@[simp] theorem State.withTable_laneB (s : State) (t : Table) : (s.withTable t).laneB = s.laneB := rfl
@[simp] theorem State.withTable_merger (s : State) (t : Table) : (s.withTable t).merger = s.merger := rfl
@[simp] theorem State.withTable_port (s : State) (t : Table) : (s.withTable t).port = s.port := rfl
@[simp] theorem State.withTable_counters (s : State) (t : Table) : (s.withTable t).counters = s.counters := rfl
@[simp] theorem State.withTable_pending (s : State) (t : Table) : (s.withTable t).pending = s.pending := rfl

@[simp] theorem State.withQueue_now (s : State) (q : List QueueEntry) : (s.withQueue q).now = s.now := rfl
@[simp] theorem State.withQueue_free (s : State) (q : List QueueEntry) : (s.withQueue q).free = s.free := rfl
@[simp] theorem State.withQueue_cfg (s : State) (q : List QueueEntry) : (s.withQueue q).cfg = s.cfg := rfl
@[simp] theorem State.withQueue_stop (s : State) (q : List QueueEntry) : (s.withQueue q).stop = s.stop := rfl
@[simp] theorem State.withQueue_claims (s : State) (q : List QueueEntry) : (s.withQueue q).claims = s.claims := rfl
@[simp] theorem State.withQueue_dir (s : State) (q : List QueueEntry) : (s.withQueue q).dir = s.dir := rfl
@[simp] theorem State.withQueue_cue (s : State) (q : List QueueEntry) : (s.withQueue q).cue = { s.cue with queue := q } := rfl
@[simp] theorem State.withQueue_exe (s : State) (q : List QueueEntry) : (s.withQueue q).exe = s.exe := rfl
@[simp] theorem State.withQueue_drive (s : State) (q : List QueueEntry) : (s.withQueue q).drive = s.drive := rfl
@[simp] theorem State.withQueue_dec (s : State) (q : List QueueEntry) : (s.withQueue q).dec = s.dec := rfl
@[simp] theorem State.withQueue_tx (s : State) (q : List QueueEntry) : (s.withQueue q).tx = s.tx := rfl
@[simp] theorem State.withQueue_laneA (s : State) (q : List QueueEntry) : (s.withQueue q).laneA = s.laneA := rfl
@[simp] theorem State.withQueue_laneB (s : State) (q : List QueueEntry) : (s.withQueue q).laneB = s.laneB := rfl
@[simp] theorem State.withQueue_merger (s : State) (q : List QueueEntry) : (s.withQueue q).merger = s.merger := rfl
@[simp] theorem State.withQueue_counters (s : State) (q : List QueueEntry) : (s.withQueue q).counters = s.counters := rfl
@[simp] theorem State.withQueue_pending (s : State) (q : List QueueEntry) : (s.withQueue q).pending = s.pending := rfl

@[simp] theorem State.trip_now (s : State) : (s.trip).now = s.now := rfl
@[simp] theorem State.trip_free (s : State) : (s.trip).free = s.free := rfl
@[simp] theorem State.trip_cfg (s : State) : (s.trip).cfg = s.cfg := rfl
@[simp] theorem State.trip_stop (s : State) : (s.trip).stop = s.stop := rfl
@[simp] theorem State.trip_claims (s : State) : (s.trip).claims = s.claims := rfl
@[simp] theorem State.trip_dir (s : State) : (s.trip).dir = s.dir := rfl
@[simp] theorem State.trip_cue (s : State) : (s.trip).cue = s.cue := rfl
@[simp] theorem State.trip_exe (s : State) : (s.trip).exe = s.exe := rfl
@[simp] theorem State.trip_drive (s : State) : (s.trip).drive = { s.drive with torqueReq := false, brakeReq := false } := rfl
@[simp] theorem State.trip_dec (s : State) : (s.trip).dec = s.dec := rfl
@[simp] theorem State.trip_tx (s : State) : (s.trip).tx = s.tx := rfl
@[simp] theorem State.trip_laneA (s : State) : (s.trip).laneA = s.laneA := rfl
@[simp] theorem State.trip_laneB (s : State) : (s.trip).laneB = s.laneB := rfl
@[simp] theorem State.trip_merger (s : State) : (s.trip).merger = s.merger := rfl
@[simp] theorem State.trip_port (s : State) : (s.trip).port = s.port := rfl
@[simp] theorem State.trip_counters (s : State) : (s.trip).counters = s.counters := rfl
@[simp] theorem State.trip_pending (s : State) : (s.trip).pending = s.pending := rfl

@[simp] theorem State.ackStopRecord_now (s : State) : (s.ackStopRecord).now = s.now := rfl
@[simp] theorem State.ackStopRecord_free (s : State) : (s.ackStopRecord).free = s.free := rfl
@[simp] theorem State.ackStopRecord_cfg (s : State) : (s.ackStopRecord).cfg = s.cfg := rfl
@[simp] theorem State.ackStopRecord_stop (s : State) : (s.ackStopRecord).stop = { s.stop with record := none } := rfl
@[simp] theorem State.ackStopRecord_claims (s : State) : (s.ackStopRecord).claims = s.claims := rfl
@[simp] theorem State.ackStopRecord_dir (s : State) : (s.ackStopRecord).dir = s.dir := rfl
@[simp] theorem State.ackStopRecord_cue (s : State) : (s.ackStopRecord).cue = s.cue := rfl
@[simp] theorem State.ackStopRecord_exe (s : State) : (s.ackStopRecord).exe = s.exe := rfl
@[simp] theorem State.ackStopRecord_drive (s : State) : (s.ackStopRecord).drive = s.drive := rfl
@[simp] theorem State.ackStopRecord_dec (s : State) : (s.ackStopRecord).dec = s.dec := rfl
@[simp] theorem State.ackStopRecord_tx (s : State) : (s.ackStopRecord).tx = s.tx := rfl
@[simp] theorem State.ackStopRecord_laneA (s : State) : (s.ackStopRecord).laneA = s.laneA := rfl
@[simp] theorem State.ackStopRecord_laneB (s : State) : (s.ackStopRecord).laneB = s.laneB := rfl
@[simp] theorem State.ackStopRecord_merger (s : State) : (s.ackStopRecord).merger = s.merger := rfl
@[simp] theorem State.ackStopRecord_port (s : State) : (s.ackStopRecord).port = s.port := rfl
@[simp] theorem State.ackStopRecord_counters (s : State) : (s.ackStopRecord).counters = s.counters := rfl
@[simp] theorem State.ackStopRecord_pending (s : State) : (s.ackStopRecord).pending = s.pending := rfl

@[simp] theorem State.clearCounters_now (s : State) : (s.clearCounters).now = s.now := rfl
@[simp] theorem State.clearCounters_free (s : State) : (s.clearCounters).free = s.free := rfl
@[simp] theorem State.clearCounters_cfg (s : State) : (s.clearCounters).cfg = s.cfg := rfl
@[simp] theorem State.clearCounters_stop (s : State) : (s.clearCounters).stop = s.stop := rfl
@[simp] theorem State.clearCounters_claims (s : State) : (s.clearCounters).claims = s.claims := rfl
@[simp] theorem State.clearCounters_dir (s : State) : (s.clearCounters).dir = s.dir := rfl
@[simp] theorem State.clearCounters_cue (s : State) : (s.clearCounters).cue = s.cue := rfl
@[simp] theorem State.clearCounters_exe (s : State) : (s.clearCounters).exe = s.exe := rfl
@[simp] theorem State.clearCounters_drive (s : State) : (s.clearCounters).drive = s.drive := rfl
@[simp] theorem State.clearCounters_dec (s : State) : (s.clearCounters).dec = s.dec := rfl
@[simp] theorem State.clearCounters_tx (s : State) : (s.clearCounters).tx = s.tx := rfl
@[simp] theorem State.clearCounters_laneA (s : State) : (s.clearCounters).laneA = { s.laneA with counts := Vector.replicate 10 0 } := rfl
@[simp] theorem State.clearCounters_laneB (s : State) : (s.clearCounters).laneB = { s.laneB with counts := Vector.replicate 10 0 } := rfl
@[simp] theorem State.clearCounters_merger (s : State) : (s.clearCounters).merger = s.merger := rfl
@[simp] theorem State.clearCounters_port (s : State) : (s.clearCounters).port = s.port := rfl
@[simp] theorem State.clearCounters_counters (s : State) : (s.clearCounters).counters = Vector.replicate 36 0 := rfl
@[simp] theorem State.clearCounters_pending (s : State) : (s.clearCounters).pending = s.pending := rfl

@[simp] theorem State.beginWindow_now (s : State) : (s.beginWindow).now = s.now := rfl
@[simp] theorem State.beginWindow_free (s : State) : (s.beginWindow).free = s.free := rfl
@[simp] theorem State.beginWindow_cfg (s : State) : (s.beginWindow).cfg = s.cfg := rfl
@[simp] theorem State.beginWindow_stop (s : State) : (s.beginWindow).stop = s.stop := rfl
@[simp] theorem State.beginWindow_dir (s : State) : (s.beginWindow).dir = s.dir := rfl
@[simp] theorem State.beginWindow_cue (s : State) : (s.beginWindow).cue = s.cue := rfl
@[simp] theorem State.beginWindow_exe (s : State) : (s.beginWindow).exe = s.exe := rfl
@[simp] theorem State.beginWindow_drive (s : State) : (s.beginWindow).drive = s.drive := rfl
@[simp] theorem State.beginWindow_dec (s : State) : (s.beginWindow).dec = s.dec := rfl
@[simp] theorem State.beginWindow_tx (s : State) : (s.beginWindow).tx = s.tx := rfl
@[simp] theorem State.beginWindow_laneA (s : State) : (s.beginWindow).laneA = s.laneA := rfl
@[simp] theorem State.beginWindow_laneB (s : State) : (s.beginWindow).laneB = s.laneB := rfl
@[simp] theorem State.beginWindow_merger (s : State) : (s.beginWindow).merger = s.merger := rfl
@[simp] theorem State.beginWindow_port (s : State) : (s.beginWindow).port = s.port := rfl
@[simp] theorem State.beginWindow_counters (s : State) : (s.beginWindow).counters = s.counters := rfl
@[simp] theorem State.beginWindow_pending (s : State) : (s.beginWindow).pending = s.pending := rfl

@[simp] theorem State.setLane_now (s : State) (l : Lane) (r : LaneReceiver) : (s.setLane l r).now = s.now := by
  cases l <;> rfl
@[simp] theorem State.setLane_free (s : State) (l : Lane) (r : LaneReceiver) : (s.setLane l r).free = s.free := by
  cases l <;> rfl
@[simp] theorem State.setLane_cfg (s : State) (l : Lane) (r : LaneReceiver) : (s.setLane l r).cfg = s.cfg := by
  cases l <;> rfl
@[simp] theorem State.setLane_stop (s : State) (l : Lane) (r : LaneReceiver) : (s.setLane l r).stop = s.stop := by
  cases l <;> rfl
@[simp] theorem State.setLane_claims (s : State) (l : Lane) (r : LaneReceiver) : (s.setLane l r).claims = s.claims := by
  cases l <;> rfl
@[simp] theorem State.setLane_dir (s : State) (l : Lane) (r : LaneReceiver) : (s.setLane l r).dir = s.dir := by
  cases l <;> rfl
@[simp] theorem State.setLane_cue (s : State) (l : Lane) (r : LaneReceiver) : (s.setLane l r).cue = s.cue := by
  cases l <;> rfl
@[simp] theorem State.setLane_exe (s : State) (l : Lane) (r : LaneReceiver) : (s.setLane l r).exe = s.exe := by
  cases l <;> rfl
@[simp] theorem State.setLane_drive (s : State) (l : Lane) (r : LaneReceiver) : (s.setLane l r).drive = s.drive := by
  cases l <;> rfl
@[simp] theorem State.setLane_dec (s : State) (l : Lane) (r : LaneReceiver) : (s.setLane l r).dec = s.dec := by
  cases l <;> rfl
@[simp] theorem State.setLane_tx (s : State) (l : Lane) (r : LaneReceiver) : (s.setLane l r).tx = s.tx := by
  cases l <;> rfl
@[simp] theorem State.setLane_merger (s : State) (l : Lane) (r : LaneReceiver) : (s.setLane l r).merger = s.merger := by
  cases l <;> rfl
@[simp] theorem State.setLane_port (s : State) (l : Lane) (r : LaneReceiver) : (s.setLane l r).port = s.port := by
  cases l <;> rfl
@[simp] theorem State.setLane_counters (s : State) (l : Lane) (r : LaneReceiver) : (s.setLane l r).counters = s.counters := by
  cases l <;> rfl
@[simp] theorem State.setLane_pending (s : State) (l : Lane) (r : LaneReceiver) : (s.setLane l r).pending = s.pending := by
  cases l <;> rfl

@[simp] theorem State.setMode_now (s : State) (m : Mode) : (s.setMode m).now = s.now := by
  unfold State.setMode; split <;> rfl
@[simp] theorem State.setMode_free (s : State) (m : Mode) : (s.setMode m).free = s.free := by
  unfold State.setMode; split <;> rfl
@[simp] theorem State.setMode_cfg (s : State) (m : Mode) : (s.setMode m).cfg = s.cfg := by
  unfold State.setMode; split <;> rfl
@[simp] theorem State.setMode_stop (s : State) (m : Mode) : (s.setMode m).stop = { s.stop with mode := m } := by
  unfold State.setMode
  split
  · rename_i h; simp [← h]
  · rfl
@[simp] theorem State.setMode_claims (s : State) (m : Mode) : (s.setMode m).claims = s.claims := by
  unfold State.setMode; split <;> rfl
@[simp] theorem State.setMode_dir (s : State) (m : Mode) : (s.setMode m).dir = s.dir := by
  unfold State.setMode; split <;> rfl
@[simp] theorem State.setMode_cue (s : State) (m : Mode) : (s.setMode m).cue = s.cue := by
  unfold State.setMode; split <;> rfl
@[simp] theorem State.setMode_exe (s : State) (m : Mode) : (s.setMode m).exe = s.exe := by
  unfold State.setMode; split <;> rfl
@[simp] theorem State.setMode_drive (s : State) (m : Mode) : (s.setMode m).drive = s.drive := by
  unfold State.setMode; split <;> rfl
@[simp] theorem State.setMode_dec (s : State) (m : Mode) : (s.setMode m).dec = s.dec := by
  unfold State.setMode; split <;> rfl
@[simp] theorem State.setMode_tx (s : State) (m : Mode) : (s.setMode m).tx = s.tx := by
  unfold State.setMode; split <;> rfl
@[simp] theorem State.setMode_laneA (s : State) (m : Mode) : (s.setMode m).laneA = s.laneA := by
  unfold State.setMode; split <;> rfl
@[simp] theorem State.setMode_laneB (s : State) (m : Mode) : (s.setMode m).laneB = s.laneB := by
  unfold State.setMode; split <;> rfl
@[simp] theorem State.setMode_merger (s : State) (m : Mode) : (s.setMode m).merger = s.merger := by
  unfold State.setMode; split <;> rfl
@[simp] theorem State.setMode_counters (s : State) (m : Mode) : (s.setMode m).counters = s.counters := by
  unfold State.setMode; split <;> rfl
@[simp] theorem State.setMode_pending (s : State) (m : Mode) : (s.setMode m).pending = s.pending := by
  unfold State.setMode; split <;> rfl

@[simp] theorem State.setView_now (s : State) (v : View) : (s.setView v).now = s.now := by
  unfold State.setView; split <;> rfl
@[simp] theorem State.setView_free (s : State) (v : View) : (s.setView v).free = s.free := by
  unfold State.setView; split <;> rfl
@[simp] theorem State.setView_cfg (s : State) (v : View) : (s.setView v).cfg = s.cfg := by
  unfold State.setView; split <;> rfl
@[simp] theorem State.setView_stop (s : State) (v : View) : (s.setView v).stop = s.stop := by
  unfold State.setView; split <;> rfl
@[simp] theorem State.setView_claims (s : State) (v : View) : (s.setView v).claims = { s.claims with view := v } := by
  unfold State.setView
  split
  · rename_i h; simp [← h]
  · rfl
@[simp] theorem State.setView_dir (s : State) (v : View) : (s.setView v).dir = s.dir := by
  unfold State.setView; split <;> rfl
@[simp] theorem State.setView_cue (s : State) (v : View) : (s.setView v).cue = s.cue := by
  unfold State.setView; split <;> rfl
@[simp] theorem State.setView_exe (s : State) (v : View) : (s.setView v).exe = s.exe := by
  unfold State.setView; split <;> rfl
@[simp] theorem State.setView_drive (s : State) (v : View) : (s.setView v).drive = s.drive := by
  unfold State.setView; split <;> rfl
@[simp] theorem State.setView_dec (s : State) (v : View) : (s.setView v).dec = s.dec := by
  unfold State.setView; split <;> rfl
@[simp] theorem State.setView_tx (s : State) (v : View) : (s.setView v).tx = s.tx := by
  unfold State.setView; split <;> rfl
@[simp] theorem State.setView_laneA (s : State) (v : View) : (s.setView v).laneA = s.laneA := by
  unfold State.setView; split <;> rfl
@[simp] theorem State.setView_laneB (s : State) (v : View) : (s.setView v).laneB = s.laneB := by
  unfold State.setView; split <;> rfl
@[simp] theorem State.setView_merger (s : State) (v : View) : (s.setView v).merger = s.merger := by
  unfold State.setView; split <;> rfl
@[simp] theorem State.setView_counters (s : State) (v : View) : (s.setView v).counters = s.counters := by
  unfold State.setView; split <;> rfl
@[simp] theorem State.setView_pending (s : State) (v : View) : (s.setView v).pending = s.pending := by
  unfold State.setView; split <;> rfl

@[simp] theorem State.setFreeze_now (s : State) (f : Freeze) : (s.setFreeze f).now = s.now := by
  unfold State.setFreeze; split <;> rfl
@[simp] theorem State.setFreeze_free (s : State) (f : Freeze) : (s.setFreeze f).free = s.free := by
  unfold State.setFreeze; split <;> rfl
@[simp] theorem State.setFreeze_cfg (s : State) (f : Freeze) : (s.setFreeze f).cfg = s.cfg := by
  unfold State.setFreeze; split <;> rfl
@[simp] theorem State.setFreeze_stop (s : State) (f : Freeze) : (s.setFreeze f).stop = s.stop := by
  unfold State.setFreeze; split <;> rfl
@[simp] theorem State.setFreeze_claims (s : State) (f : Freeze) : (s.setFreeze f).claims = s.claims := by
  unfold State.setFreeze; split <;> rfl
@[simp] theorem State.setFreeze_dir (s : State) (f : Freeze) : (s.setFreeze f).dir = s.dir := by
  unfold State.setFreeze; split <;> rfl
@[simp] theorem State.setFreeze_cue (s : State) (f : Freeze) : (s.setFreeze f).cue = { s.cue with freeze := f } := by
  unfold State.setFreeze
  split
  · rename_i h; simp [← h]
  · rfl
@[simp] theorem State.setFreeze_exe (s : State) (f : Freeze) : (s.setFreeze f).exe = s.exe := by
  unfold State.setFreeze; split <;> rfl
@[simp] theorem State.setFreeze_drive (s : State) (f : Freeze) : (s.setFreeze f).drive = s.drive := by
  unfold State.setFreeze; split <;> rfl
@[simp] theorem State.setFreeze_dec (s : State) (f : Freeze) : (s.setFreeze f).dec = s.dec := by
  unfold State.setFreeze; split <;> rfl
@[simp] theorem State.setFreeze_tx (s : State) (f : Freeze) : (s.setFreeze f).tx = s.tx := by
  unfold State.setFreeze; split <;> rfl
@[simp] theorem State.setFreeze_laneA (s : State) (f : Freeze) : (s.setFreeze f).laneA = s.laneA := by
  unfold State.setFreeze; split <;> rfl
@[simp] theorem State.setFreeze_laneB (s : State) (f : Freeze) : (s.setFreeze f).laneB = s.laneB := by
  unfold State.setFreeze; split <;> rfl
@[simp] theorem State.setFreeze_merger (s : State) (f : Freeze) : (s.setFreeze f).merger = s.merger := by
  unfold State.setFreeze; split <;> rfl
@[simp] theorem State.setFreeze_counters (s : State) (f : Freeze) : (s.setFreeze f).counters = s.counters := by
  unfold State.setFreeze; split <;> rfl
@[simp] theorem State.setFreeze_pending (s : State) (f : Freeze) : (s.setFreeze f).pending = s.pending := by
  unfold State.setFreeze; split <;> rfl

@[simp] theorem State.setParked_now (s : State) (p : Parked) : (s.setParked p).now = s.now := by
  unfold State.setParked; split <;> rfl
@[simp] theorem State.setParked_free (s : State) (p : Parked) : (s.setParked p).free = s.free := by
  unfold State.setParked; split <;> rfl
@[simp] theorem State.setParked_cfg (s : State) (p : Parked) : (s.setParked p).cfg = s.cfg := by
  unfold State.setParked; split <;> rfl
@[simp] theorem State.setParked_stop (s : State) (p : Parked) : (s.setParked p).stop = s.stop := by
  unfold State.setParked; split <;> rfl
@[simp] theorem State.setParked_claims (s : State) (p : Parked) : (s.setParked p).claims = s.claims := by
  unfold State.setParked; split <;> rfl
@[simp] theorem State.setParked_dir (s : State) (p : Parked) : (s.setParked p).dir = s.dir := by
  unfold State.setParked; split <;> rfl
@[simp] theorem State.setParked_cue (s : State) (p : Parked) : (s.setParked p).cue = { s.cue with parked := p } := by
  unfold State.setParked
  split
  · rename_i h; simp [← h]
  · rfl
@[simp] theorem State.setParked_exe (s : State) (p : Parked) : (s.setParked p).exe = s.exe := by
  unfold State.setParked; split <;> rfl
@[simp] theorem State.setParked_drive (s : State) (p : Parked) : (s.setParked p).drive = s.drive := by
  unfold State.setParked; split <;> rfl
@[simp] theorem State.setParked_dec (s : State) (p : Parked) : (s.setParked p).dec = s.dec := by
  unfold State.setParked; split <;> rfl
@[simp] theorem State.setParked_tx (s : State) (p : Parked) : (s.setParked p).tx = s.tx := by
  unfold State.setParked; split <;> rfl
@[simp] theorem State.setParked_laneA (s : State) (p : Parked) : (s.setParked p).laneA = s.laneA := by
  unfold State.setParked; split <;> rfl
@[simp] theorem State.setParked_laneB (s : State) (p : Parked) : (s.setParked p).laneB = s.laneB := by
  unfold State.setParked; split <;> rfl
@[simp] theorem State.setParked_merger (s : State) (p : Parked) : (s.setParked p).merger = s.merger := by
  unfold State.setParked; split <;> rfl
@[simp] theorem State.setParked_counters (s : State) (p : Parked) : (s.setParked p).counters = s.counters := by
  unfold State.setParked; split <;> rfl
@[simp] theorem State.setParked_pending (s : State) (p : Parked) : (s.setParked p).pending = s.pending := by
  unfold State.setParked; split <;> rfl

/-! ### Lanes -/

@[simp] theorem State.lane_setLane_same (s : State) (l : Lane) (r : LaneReceiver) : (s.setLane l r).lane l = r := by
  cases l <;> rfl

theorem State.lane_setLane_other (s : State) (l m : Lane) (r : LaneReceiver) (h : l ≠ m) :
    (s.setLane l r).lane m = s.lane m := by
  cases l <;> cases m <;> first | rfl | exact absurd rfl h

/-! ### Flags and counters -/

/-- The flag register after a flag is set. -/
@[simp] theorem State.setFlag_flags (s : State) (f : Flag) :
    (s.setFlag f).port.flags = s.port.flags ||| (1#16 <<< f.bit) := rfl

@[simp] theorem State.setFlag_enables (s : State) (f : Flag) : (s.setFlag f).port.enables = s.port.enables := rfl

@[simp] theorem State.setFlag_mailbox (s : State) (f : Flag) : (s.setFlag f).port.mailbox = s.port.mailbox := rfl

@[simp] theorem State.setFlag_same (s : State) (f : Flag) : (s.setFlag f).flagSet f = true := by
  cases f <;> simp [State.flagSet, Flag.bit]

/-- Every flag that was set stays set. -/
theorem State.setFlag_keeps (s : State) (f g : Flag) (h : s.flagSet g = true) : (s.setFlag f).flagSet g = true := by
  simp only [State.flagSet, State.setFlag_flags, BitVec.getLsbD_or] at *
  simp [h]

theorem State.counter_count_same (s : State) (c : Counter) (n : Nat) :
    (s.count c n).counter c = saturate16 (s.counter c) n := by
  simp [State.counter]

theorem State.counter_count_other (s : State) (c d : Counter) (n : Nat) (h : c.number ≠ d.number) :
    (s.count c n).counter d = s.counter d := by
  have h' : c.number.val ≠ d.number.val := fun e => h (Fin.ext e)
  simp [State.counter, Vector.getElem_set_ne, h']

/-- Two counters with one number are one counter. -/
theorem Counter.number_injective (c d : Counter) (h : c.number = d.number) : c = d := by
  cases c <;> cases d <;> first | rfl | (exact absurd h (by decide))

end Sys2Proof.Machine
end

