-- ==== Sys2Proof/Laws/Frames.lean ====
section
/-! SUPPORT. What each shared operation leaves alone: for every operation, one lemma that names the fields of State it never
writes. Together with Laws/State.lean they carry a frame through any composition of operations by `simp`. -/

namespace Sys2Proof.Machine

@[simp] theorem State.refuse_keeps (s : State) (code : RefusalCode) (cue : Option Nat) :
    (s.refuse code cue).now = s.now ∧ (s.refuse code cue).free = s.free ∧ (s.refuse code cue).cfg = s.cfg
      ∧ (s.refuse code cue).stop = s.stop ∧ (s.refuse code cue).claims = s.claims ∧ (s.refuse code cue).dir = s.dir
      ∧ (s.refuse code cue).exe = s.exe ∧ (s.refuse code cue).drive = s.drive ∧ (s.refuse code cue).tx = s.tx
      ∧ (s.refuse code cue).laneA = s.laneA ∧ (s.refuse code cue).laneB = s.laneB
      ∧ (s.refuse code cue).merger = s.merger ∧ (s.refuse code cue).pending = s.pending := by
  simp only [State.refuse]
  (repeat' split) <;> simp

@[simp] theorem State.recordKind_keeps (s : State) (l : Lane) (k : LaneKind) :
    (s.recordKind l k).now = s.now ∧ (s.recordKind l k).free = s.free ∧ (s.recordKind l k).cfg = s.cfg
      ∧ (s.recordKind l k).stop = s.stop ∧ (s.recordKind l k).claims = s.claims ∧ (s.recordKind l k).dir = s.dir
      ∧ (s.recordKind l k).cue = s.cue ∧ (s.recordKind l k).exe = s.exe ∧ (s.recordKind l k).drive = s.drive
      ∧ (s.recordKind l k).dec = s.dec ∧ (s.recordKind l k).tx = s.tx ∧ (s.recordKind l k).merger = s.merger
      ∧ (s.recordKind l k).counters = s.counters ∧ (s.recordKind l k).pending = s.pending := by
  simp only [State.recordKind]
  (repeat' split) <;> simp

@[simp] theorem foldl_recordKind_keeps {α : Type} (l : α → Lane) (k : α → LaneKind) (xs : List α) (s : State) :
    (xs.foldl (fun s x => s.recordKind (l x) (k x)) s).now = s.now ∧ (xs.foldl (fun s x => s.recordKind (l x) (k x)) s).free = s.free
      ∧ (xs.foldl (fun s x => s.recordKind (l x) (k x)) s).cfg = s.cfg
      ∧ (xs.foldl (fun s x => s.recordKind (l x) (k x)) s).stop = s.stop
      ∧ (xs.foldl (fun s x => s.recordKind (l x) (k x)) s).claims = s.claims
      ∧ (xs.foldl (fun s x => s.recordKind (l x) (k x)) s).dir = s.dir
      ∧ (xs.foldl (fun s x => s.recordKind (l x) (k x)) s).cue = s.cue
      ∧ (xs.foldl (fun s x => s.recordKind (l x) (k x)) s).exe = s.exe
      ∧ (xs.foldl (fun s x => s.recordKind (l x) (k x)) s).drive = s.drive
      ∧ (xs.foldl (fun s x => s.recordKind (l x) (k x)) s).dec = s.dec
      ∧ (xs.foldl (fun s x => s.recordKind (l x) (k x)) s).tx = s.tx
      ∧ (xs.foldl (fun s x => s.recordKind (l x) (k x)) s).merger = s.merger
      ∧ (xs.foldl (fun s x => s.recordKind (l x) (k x)) s).counters = s.counters
      ∧ (xs.foldl (fun s x => s.recordKind (l x) (k x)) s).pending = s.pending := by
  induction xs generalizing s with
  | nil => simp
  | cons x xs ih => simp [ih]

@[simp] theorem State.mailboxFreed_keeps (s : State) :
    (s.mailboxFreed).now = s.now ∧ (s.mailboxFreed).free = s.free ∧ (s.mailboxFreed).cfg = s.cfg
      ∧ (s.mailboxFreed).stop = s.stop ∧ (s.mailboxFreed).claims = s.claims ∧ (s.mailboxFreed).dir = s.dir
      ∧ (s.mailboxFreed).cue = s.cue ∧ (s.mailboxFreed).exe = s.exe ∧ (s.mailboxFreed).drive = s.drive
      ∧ (s.mailboxFreed).dec = s.dec ∧ (s.mailboxFreed).tx = s.tx ∧ (s.mailboxFreed).laneA = s.laneA
      ∧ (s.mailboxFreed).laneB = s.laneB ∧ (s.mailboxFreed).merger = s.merger
      ∧ (s.mailboxFreed).counters = s.counters ∧ (s.mailboxFreed).pending = s.pending := by
  simp [State.mailboxFreed]

@[simp] theorem State.fillPlaces_keeps (s : State) (c : FrameClass) :
    (s.fillPlaces c).now = s.now ∧ (s.fillPlaces c).free = s.free ∧ (s.fillPlaces c).cfg = s.cfg
      ∧ (s.fillPlaces c).stop = s.stop ∧ (s.fillPlaces c).claims = s.claims ∧ (s.fillPlaces c).dir = s.dir
      ∧ (s.fillPlaces c).cue = s.cue ∧ (s.fillPlaces c).exe = s.exe ∧ (s.fillPlaces c).drive = s.drive
      ∧ (s.fillPlaces c).dec = s.dec ∧ (s.fillPlaces c).laneA = s.laneA ∧ (s.fillPlaces c).laneB = s.laneB
      ∧ (s.fillPlaces c).merger = s.merger ∧ (s.fillPlaces c).counters = s.counters
      ∧ (s.fillPlaces c).pending = s.pending := by
  simp only [State.fillPlaces]
  (repeat' split) <;> simp

@[simp] theorem State.enqueue_keeps (s : State) (f : TxFrame) :
    (s.enqueue f).now = s.now ∧ (s.enqueue f).free = s.free ∧ (s.enqueue f).cfg = s.cfg
      ∧ (s.enqueue f).stop = s.stop ∧ (s.enqueue f).claims = s.claims ∧ (s.enqueue f).dir = s.dir
      ∧ (s.enqueue f).cue = s.cue ∧ (s.enqueue f).exe = s.exe ∧ (s.enqueue f).drive = s.drive
      ∧ (s.enqueue f).dec = s.dec ∧ (s.enqueue f).laneA = s.laneA ∧ (s.enqueue f).laneB = s.laneB
      ∧ (s.enqueue f).merger = s.merger ∧ (s.enqueue f).counters = s.counters ∧ (s.enqueue f).pending = s.pending := by
  simp only [State.enqueue]
  (repeat' split) <;> simp

@[simp] theorem State.removeUnsent_keeps (s : State) (c : FrameClass) (p : TxFrame → Bool) :
    (s.removeUnsent c p).now = s.now ∧ (s.removeUnsent c p).free = s.free ∧ (s.removeUnsent c p).cfg = s.cfg
      ∧ (s.removeUnsent c p).stop = s.stop ∧ (s.removeUnsent c p).claims = s.claims
      ∧ (s.removeUnsent c p).dir = s.dir ∧ (s.removeUnsent c p).cue = s.cue ∧ (s.removeUnsent c p).exe = s.exe
      ∧ (s.removeUnsent c p).drive = s.drive ∧ (s.removeUnsent c p).dec = s.dec
      ∧ (s.removeUnsent c p).laneA = s.laneA ∧ (s.removeUnsent c p).laneB = s.laneB
      ∧ (s.removeUnsent c p).merger = s.merger ∧ (s.removeUnsent c p).counters = s.counters
      ∧ (s.removeUnsent c p).pending = s.pending := by
  simp only [State.removeUnsent]
  (repeat' split) <;> simp

@[simp] theorem State.mapHead_keeps (s : State) (c : FrameClass) (g : TxFrame → TxFrame) :
    (s.mapHead c g).now = s.now ∧ (s.mapHead c g).free = s.free ∧ (s.mapHead c g).cfg = s.cfg
      ∧ (s.mapHead c g).stop = s.stop ∧ (s.mapHead c g).claims = s.claims ∧ (s.mapHead c g).dir = s.dir
      ∧ (s.mapHead c g).cue = s.cue ∧ (s.mapHead c g).exe = s.exe ∧ (s.mapHead c g).drive = s.drive
      ∧ (s.mapHead c g).dec = s.dec ∧ (s.mapHead c g).laneA = s.laneA ∧ (s.mapHead c g).laneB = s.laneB
      ∧ (s.mapHead c g).merger = s.merger ∧ (s.mapHead c g).port = s.port ∧ (s.mapHead c g).counters = s.counters
      ∧ (s.mapHead c g).pending = s.pending := by
  simp only [State.mapHead]
  (repeat' split) <;> simp

@[simp] theorem State.leaveFlight_keeps (s : State) (c : FrameClass) :
    (s.leaveFlight c).now = s.now ∧ (s.leaveFlight c).free = s.free ∧ (s.leaveFlight c).cfg = s.cfg
      ∧ (s.leaveFlight c).stop = s.stop ∧ (s.leaveFlight c).claims = s.claims ∧ (s.leaveFlight c).dir = s.dir
      ∧ (s.leaveFlight c).cue = s.cue ∧ (s.leaveFlight c).exe = s.exe ∧ (s.leaveFlight c).drive = s.drive
      ∧ (s.leaveFlight c).dec = s.dec ∧ (s.leaveFlight c).laneA = s.laneA ∧ (s.leaveFlight c).laneB = s.laneB
      ∧ (s.leaveFlight c).merger = s.merger ∧ (s.leaveFlight c).counters = s.counters
      ∧ (s.leaveFlight c).pending = s.pending := by
  simp [State.leaveFlight]

@[simp] theorem State.queueStatus_keeps (s : State) :
    (s.queueStatus).now = s.now ∧ (s.queueStatus).free = s.free ∧ (s.queueStatus).cfg = s.cfg
      ∧ (s.queueStatus).stop = s.stop ∧ (s.queueStatus).claims = s.claims ∧ (s.queueStatus).dir = s.dir
      ∧ (s.queueStatus).cue = s.cue ∧ (s.queueStatus).exe = s.exe ∧ (s.queueStatus).drive = s.drive
      ∧ (s.queueStatus).dec = s.dec ∧ (s.queueStatus).laneA = s.laneA ∧ (s.queueStatus).laneB = s.laneB
      ∧ (s.queueStatus).merger = s.merger ∧ (s.queueStatus).counters = s.counters
      ∧ (s.queueStatus).pending = s.pending := by
  simp [State.queueStatus]

@[simp] theorem State.produceStatus_keeps (s : State) :
    (s.produceStatus).now = s.now ∧ (s.produceStatus).free = s.free ∧ (s.produceStatus).cfg = s.cfg
      ∧ (s.produceStatus).stop = s.stop ∧ (s.produceStatus).claims = s.claims ∧ (s.produceStatus).cue = s.cue
      ∧ (s.produceStatus).exe = s.exe ∧ (s.produceStatus).drive = s.drive ∧ (s.produceStatus).dec = s.dec
      ∧ (s.produceStatus).laneA = s.laneA ∧ (s.produceStatus).laneB = s.laneB ∧ (s.produceStatus).merger = s.merger
      ∧ (s.produceStatus).pending = s.pending := by
  simp only [State.produceStatus]
  (repeat' split) <;> simp

@[simp] theorem State.startReporter_keeps (s : State) :
    (s.startReporter).now = s.now ∧ (s.startReporter).free = s.free ∧ (s.startReporter).cfg = s.cfg
      ∧ (s.startReporter).stop = s.stop ∧ (s.startReporter).claims = s.claims ∧ (s.startReporter).cue = s.cue
      ∧ (s.startReporter).exe = s.exe ∧ (s.startReporter).drive = s.drive ∧ (s.startReporter).dec = s.dec
      ∧ (s.startReporter).laneA = s.laneA ∧ (s.startReporter).laneB = s.laneB ∧ (s.startReporter).merger = s.merger
      ∧ (s.startReporter).pending = s.pending := by
  simp only [State.startReporter]
  (repeat' split) <;> simp

@[simp] theorem State.reportIfDue_keeps (s : State) :
    (s.reportIfDue).now = s.now ∧ (s.reportIfDue).free = s.free ∧ (s.reportIfDue).cfg = s.cfg
      ∧ (s.reportIfDue).stop = s.stop ∧ (s.reportIfDue).claims = s.claims ∧ (s.reportIfDue).cue = s.cue
      ∧ (s.reportIfDue).exe = s.exe ∧ (s.reportIfDue).drive = s.drive ∧ (s.reportIfDue).dec = s.dec
      ∧ (s.reportIfDue).laneA = s.laneA ∧ (s.reportIfDue).laneB = s.laneB ∧ (s.reportIfDue).merger = s.merger
      ∧ (s.reportIfDue).counters = s.counters ∧ (s.reportIfDue).pending = s.pending := by
  simp only [State.reportIfDue]
  (repeat' split) <;> simp

@[simp] theorem State.offerRestate_keeps (s : State) :
    (s.offerRestate).now = s.now ∧ (s.offerRestate).free = s.free ∧ (s.offerRestate).cfg = s.cfg
      ∧ (s.offerRestate).stop = s.stop ∧ (s.offerRestate).claims = s.claims ∧ (s.offerRestate).dir = s.dir
      ∧ (s.offerRestate).cue = s.cue ∧ (s.offerRestate).exe = s.exe ∧ (s.offerRestate).drive = s.drive
      ∧ (s.offerRestate).dec = s.dec ∧ (s.offerRestate).laneA = s.laneA ∧ (s.offerRestate).laneB = s.laneB
      ∧ (s.offerRestate).merger = s.merger ∧ (s.offerRestate).counters = s.counters
      ∧ (s.offerRestate).pending = s.pending := by
  simp only [State.offerRestate]
  (repeat' split) <;> simp

@[simp] theorem State.offerRequest_keeps (s : State) :
    (s.offerRequest).now = s.now ∧ (s.offerRequest).free = s.free ∧ (s.offerRequest).cfg = s.cfg
      ∧ (s.offerRequest).stop = s.stop ∧ (s.offerRequest).claims = s.claims ∧ (s.offerRequest).dir = s.dir
      ∧ (s.offerRequest).cue = s.cue ∧ (s.offerRequest).exe = s.exe ∧ (s.offerRequest).drive = s.drive
      ∧ (s.offerRequest).dec = s.dec ∧ (s.offerRequest).laneA = s.laneA ∧ (s.offerRequest).laneB = s.laneB
      ∧ (s.offerRequest).merger = s.merger ∧ (s.offerRequest).counters = s.counters
      ∧ (s.offerRequest).pending = s.pending := by
  simp only [State.offerRequest]
  (repeat' split) <;> simp

@[simp] theorem State.enterRecord_keeps (s : State) (n : Nat) (r : DirRecord) (keepStatus : Bool) :
    (s.enterRecord n r keepStatus).now = s.now ∧ (s.enterRecord n r keepStatus).free = s.free
      ∧ (s.enterRecord n r keepStatus).cfg = s.cfg ∧ (s.enterRecord n r keepStatus).stop = s.stop
      ∧ (s.enterRecord n r keepStatus).claims = s.claims ∧ (s.enterRecord n r keepStatus).cue = s.cue
      ∧ (s.enterRecord n r keepStatus).exe = s.exe ∧ (s.enterRecord n r keepStatus).drive = s.drive
      ∧ (s.enterRecord n r keepStatus).dec = s.dec ∧ (s.enterRecord n r keepStatus).tx = s.tx
      ∧ (s.enterRecord n r keepStatus).laneA = s.laneA ∧ (s.enterRecord n r keepStatus).laneB = s.laneB
      ∧ (s.enterRecord n r keepStatus).merger = s.merger ∧ (s.enterRecord n r keepStatus).counters = s.counters
      ∧ (s.enterRecord n r keepStatus).pending = s.pending := by
  simp only [State.enterRecord]
  (repeat' split) <;> simp

@[simp] theorem State.enterStatus_keeps (s : State) (n : Nat) (r : StatusReport) :
    (s.enterStatus n r).now = s.now ∧ (s.enterStatus n r).free = s.free ∧ (s.enterStatus n r).cfg = s.cfg
      ∧ (s.enterStatus n r).stop = s.stop ∧ (s.enterStatus n r).claims = s.claims ∧ (s.enterStatus n r).cue = s.cue
      ∧ (s.enterStatus n r).exe = s.exe ∧ (s.enterStatus n r).drive = s.drive ∧ (s.enterStatus n r).dec = s.dec
      ∧ (s.enterStatus n r).tx = s.tx ∧ (s.enterStatus n r).laneA = s.laneA ∧ (s.enterStatus n r).laneB = s.laneB
      ∧ (s.enterStatus n r).merger = s.merger ∧ (s.enterStatus n r).counters = s.counters
      ∧ (s.enterStatus n r).pending = s.pending := by
  simp only [State.enterStatus]
  (repeat' split) <;> simp

@[simp] theorem State.silence_keeps (s : State) (n : Nat) :
    (s.silence n).now = s.now ∧ (s.silence n).free = s.free ∧ (s.silence n).cfg = s.cfg
      ∧ (s.silence n).stop = s.stop ∧ (s.silence n).claims = s.claims ∧ (s.silence n).cue = s.cue
      ∧ (s.silence n).exe = s.exe ∧ (s.silence n).drive = s.drive ∧ (s.silence n).dec = s.dec
      ∧ (s.silence n).tx = s.tx ∧ (s.silence n).laneA = s.laneA ∧ (s.silence n).laneB = s.laneB
      ∧ (s.silence n).merger = s.merger ∧ (s.silence n).pending = s.pending := by
  simp [State.silence]

@[simp] theorem State.runPass_keeps (s : State) :
    (s.runPass).now = s.now ∧ (s.runPass).free = s.free ∧ (s.runPass).cfg = s.cfg ∧ (s.runPass).stop = s.stop
      ∧ (s.runPass).dir = s.dir ∧ (s.runPass).cue = s.cue ∧ (s.runPass).exe = s.exe ∧ (s.runPass).drive = s.drive
      ∧ (s.runPass).dec = s.dec ∧ (s.runPass).tx = s.tx ∧ (s.runPass).laneA = s.laneA ∧ (s.runPass).laneB = s.laneB
      ∧ (s.runPass).merger = s.merger ∧ (s.runPass).port = s.port ∧ (s.runPass).counters = s.counters
      ∧ (s.runPass).pending = s.pending := by
  simp [State.runPass]

@[simp] theorem State.suspicion_keeps (s : State) :
    (s.suspicion).now = s.now ∧ (s.suspicion).free = s.free ∧ (s.suspicion).cfg = s.cfg
      ∧ (s.suspicion).stop = s.stop ∧ (s.suspicion).dir = s.dir ∧ (s.suspicion).cue = s.cue
      ∧ (s.suspicion).exe = s.exe ∧ (s.suspicion).drive = s.drive ∧ (s.suspicion).dec = s.dec
      ∧ (s.suspicion).laneA = s.laneA ∧ (s.suspicion).laneB = s.laneB ∧ (s.suspicion).merger = s.merger
      ∧ (s.suspicion).pending = s.pending := by
  simp only [State.suspicion]
  (repeat' split) <;> simp

@[simp] theorem State.evaluateGate_keeps (s : State) :
    (s.evaluateGate).now = s.now ∧ (s.evaluateGate).free = s.free ∧ (s.evaluateGate).cfg = s.cfg
      ∧ (s.evaluateGate).stop = s.stop ∧ (s.evaluateGate).claims = s.claims ∧ (s.evaluateGate).dir = s.dir
      ∧ (s.evaluateGate).cue = s.cue ∧ (s.evaluateGate).drive = s.drive ∧ (s.evaluateGate).dec = s.dec
      ∧ (s.evaluateGate).tx = s.tx ∧ (s.evaluateGate).laneA = s.laneA ∧ (s.evaluateGate).laneB = s.laneB
      ∧ (s.evaluateGate).merger = s.merger ∧ (s.evaluateGate).port = s.port ∧ (s.evaluateGate).counters = s.counters
      ∧ (s.evaluateGate).pending = s.pending := by
  simp only [State.evaluateGate]
  (repeat' split) <;> simp

@[simp] theorem State.enterClaiming_keeps (s : State) (g : Segment) (start : Nat) :
    (s.enterClaiming g start).now = s.now ∧ (s.enterClaiming g start).free = s.free
      ∧ (s.enterClaiming g start).cfg = s.cfg ∧ (s.enterClaiming g start).stop = s.stop
      ∧ (s.enterClaiming g start).claims = s.claims ∧ (s.enterClaiming g start).dir = s.dir
      ∧ (s.enterClaiming g start).cue = s.cue ∧ (s.enterClaiming g start).drive = s.drive
      ∧ (s.enterClaiming g start).dec = s.dec ∧ (s.enterClaiming g start).laneA = s.laneA
      ∧ (s.enterClaiming g start).laneB = s.laneB ∧ (s.enterClaiming g start).merger = s.merger
      ∧ (s.enterClaiming g start).counters = s.counters ∧ (s.enterClaiming g start).pending = s.pending := by
  simp [State.enterClaiming]

@[simp] theorem State.tryClaim_keeps (s : State) :
    (s.tryClaim).now = s.now ∧ (s.tryClaim).free = s.free ∧ (s.tryClaim).cfg = s.cfg
      ∧ (s.tryClaim).stop = s.stop ∧ (s.tryClaim).claims = s.claims ∧ (s.tryClaim).dir = s.dir
      ∧ (s.tryClaim).cue = s.cue ∧ (s.tryClaim).drive = s.drive ∧ (s.tryClaim).dec = s.dec
      ∧ (s.tryClaim).laneA = s.laneA ∧ (s.tryClaim).laneB = s.laneB ∧ (s.tryClaim).merger = s.merger
      ∧ (s.tryClaim).counters = s.counters ∧ (s.tryClaim).pending = s.pending := by
  simp only [State.tryClaim]
  (repeat' split) <;> simp

@[simp] theorem State.enterGated_keeps (s : State) (latched : Bool) :
    (s.enterGated latched).now = s.now ∧ (s.enterGated latched).free = s.free
      ∧ (s.enterGated latched).cfg = s.cfg ∧ (s.enterGated latched).stop = s.stop
      ∧ (s.enterGated latched).claims = s.claims ∧ (s.enterGated latched).dir = s.dir
      ∧ (s.enterGated latched).cue = s.cue ∧ (s.enterGated latched).drive = s.drive
      ∧ (s.enterGated latched).dec = s.dec ∧ (s.enterGated latched).laneA = s.laneA
      ∧ (s.enterGated latched).laneB = s.laneB ∧ (s.enterGated latched).merger = s.merger
      ∧ (s.enterGated latched).counters = s.counters ∧ (s.enterGated latched).pending = s.pending := by
  simp only [State.enterGated]
  (repeat' split) <;> simp

@[simp] theorem State.handOver_keeps (s : State) (g : Segment) (resumed moved : Bool) :
    (s.handOver g resumed moved).now = s.now ∧ (s.handOver g resumed moved).free = s.free
      ∧ (s.handOver g resumed moved).cfg = s.cfg ∧ (s.handOver g resumed moved).stop = s.stop
      ∧ (s.handOver g resumed moved).claims = s.claims ∧ (s.handOver g resumed moved).dir = s.dir
      ∧ (s.handOver g resumed moved).cue = s.cue ∧ (s.handOver g resumed moved).drive = s.drive
      ∧ (s.handOver g resumed moved).dec = s.dec ∧ (s.handOver g resumed moved).laneA = s.laneA
      ∧ (s.handOver g resumed moved).laneB = s.laneB ∧ (s.handOver g resumed moved).merger = s.merger
      ∧ (s.handOver g resumed moved).counters = s.counters ∧ (s.handOver g resumed moved).pending = s.pending := by
  simp only [State.handOver]
  (repeat' split) <;> simp

@[simp] theorem State.queueRelease_keeps (s : State) (o : Origin) (band : Band) :
    (s.queueRelease o band).now = s.now ∧ (s.queueRelease o band).free = s.free
      ∧ (s.queueRelease o band).cfg = s.cfg ∧ (s.queueRelease o band).stop = s.stop
      ∧ (s.queueRelease o band).claims = s.claims ∧ (s.queueRelease o band).dir = s.dir
      ∧ (s.queueRelease o band).cue = s.cue ∧ (s.queueRelease o band).exe = s.exe
      ∧ (s.queueRelease o band).drive = s.drive ∧ (s.queueRelease o band).dec = s.dec
      ∧ (s.queueRelease o band).laneA = s.laneA ∧ (s.queueRelease o band).laneB = s.laneB
      ∧ (s.queueRelease o band).merger = s.merger ∧ (s.queueRelease o band).counters = s.counters
      ∧ (s.queueRelease o band).pending = s.pending := by
  simp [State.queueRelease]

@[simp] theorem State.oweRelease_keeps (s : State) (band : Band) :
    (s.oweRelease band).now = s.now ∧ (s.oweRelease band).free = s.free ∧ (s.oweRelease band).cfg = s.cfg
      ∧ (s.oweRelease band).stop = s.stop ∧ (s.oweRelease band).claims = s.claims ∧ (s.oweRelease band).dir = s.dir
      ∧ (s.oweRelease band).cue = s.cue ∧ (s.oweRelease band).drive = s.drive ∧ (s.oweRelease band).dec = s.dec
      ∧ (s.oweRelease band).laneA = s.laneA ∧ (s.oweRelease band).laneB = s.laneB
      ∧ (s.oweRelease band).merger = s.merger ∧ (s.oweRelease band).counters = s.counters
      ∧ (s.oweRelease band).pending = s.pending := by
  simp [State.oweRelease]

@[simp] theorem State.enterUnbraking_keeps (s : State) (setpoint : Option Nat) :
    (s.enterUnbraking setpoint).now = s.now ∧ (s.enterUnbraking setpoint).free = s.free
      ∧ (s.enterUnbraking setpoint).cfg = s.cfg ∧ (s.enterUnbraking setpoint).stop = s.stop
      ∧ (s.enterUnbraking setpoint).claims = s.claims ∧ (s.enterUnbraking setpoint).dir = s.dir
      ∧ (s.enterUnbraking setpoint).cue = s.cue ∧ (s.enterUnbraking setpoint).dec = s.dec
      ∧ (s.enterUnbraking setpoint).tx = s.tx ∧ (s.enterUnbraking setpoint).laneA = s.laneA
      ∧ (s.enterUnbraking setpoint).laneB = s.laneB ∧ (s.enterUnbraking setpoint).merger = s.merger
      ∧ (s.enterUnbraking setpoint).port = s.port ∧ (s.enterUnbraking setpoint).counters = s.counters
      ∧ (s.enterUnbraking setpoint).pending = s.pending := by
  simp [State.enterUnbraking]

@[simp] theorem State.startMove_keeps (s : State) :
    (s.startMove).now = s.now ∧ (s.startMove).free = s.free ∧ (s.startMove).cfg = s.cfg
      ∧ (s.startMove).stop = s.stop ∧ (s.startMove).claims = s.claims ∧ (s.startMove).dir = s.dir
      ∧ (s.startMove).cue = s.cue ∧ (s.startMove).dec = s.dec ∧ (s.startMove).laneA = s.laneA
      ∧ (s.startMove).laneB = s.laneB ∧ (s.startMove).merger = s.merger ∧ (s.startMove).counters = s.counters
      ∧ (s.startMove).pending = s.pending := by
  simp only [State.startMove]
  (repeat' split) <;> simp

@[simp] theorem State.enterMoving_keeps (s : State) :
    (s.enterMoving).now = s.now ∧ (s.enterMoving).free = s.free ∧ (s.enterMoving).cfg = s.cfg
      ∧ (s.enterMoving).stop = s.stop ∧ (s.enterMoving).claims = s.claims ∧ (s.enterMoving).dir = s.dir
      ∧ (s.enterMoving).cue = s.cue ∧ (s.enterMoving).drive = s.drive ∧ (s.enterMoving).dec = s.dec
      ∧ (s.enterMoving).tx = s.tx ∧ (s.enterMoving).laneA = s.laneA ∧ (s.enterMoving).laneB = s.laneB
      ∧ (s.enterMoving).merger = s.merger ∧ (s.enterMoving).port = s.port ∧ (s.enterMoving).counters = s.counters
      ∧ (s.enterMoving).pending = s.pending := by
  simp only [State.enterMoving]
  (repeat' split) <;> simp

@[simp] theorem State.enterStopping_keeps (s : State) (purpose : Purpose) :
    (s.enterStopping purpose).now = s.now ∧ (s.enterStopping purpose).free = s.free
      ∧ (s.enterStopping purpose).cfg = s.cfg
      ∧ (s.enterStopping purpose).stop = s.stop ∧ (s.enterStopping purpose).claims = s.claims
      ∧ (s.enterStopping purpose).dir = s.dir ∧ (s.enterStopping purpose).cue = s.cue
      ∧ (s.enterStopping purpose).drive = s.drive ∧ (s.enterStopping purpose).dec = s.dec
      ∧ (s.enterStopping purpose).tx = s.tx ∧ (s.enterStopping purpose).laneA = s.laneA
      ∧ (s.enterStopping purpose).laneB = s.laneB ∧ (s.enterStopping purpose).merger = s.merger
      ∧ (s.enterStopping purpose).port = s.port ∧ (s.enterStopping purpose).counters = s.counters
      ∧ (s.enterStopping purpose).pending = s.pending := by
  simp only [State.enterStopping]
  (repeat' split) <;> simp

/-- A decision as it is recorded differs in the lanes of MISSING alone, and names no OFF lane (R153). -/
@[simp] theorem State.recorded_accepted (s : State) (d : Decision) : (s.recorded d).accepted = d.accepted := rfl
@[simp] theorem State.recorded_disagree (s : State) (d : Decision) : (s.recorded d).disagree = d.disagree := rfl
theorem State.recorded_missing (s : State) (d : Decision) (l : Lane) :
    l ∈ (s.recorded d).missing ↔ l ∈ d.missing ∧ s.laneOn l = true := by simp [State.recorded]

@[simp] theorem State.buildTrim_keeps (s : State) (g : Segment) (height : Nat) :
    (s.buildTrim g height).now = s.now ∧ (s.buildTrim g height).free = s.free ∧ (s.buildTrim g height).cfg = s.cfg
      ∧ (s.buildTrim g height).stop = s.stop ∧ (s.buildTrim g height).claims = s.claims
      ∧ (s.buildTrim g height).dir = s.dir ∧ (s.buildTrim g height).cue = s.cue
      ∧ (s.buildTrim g height).drive = s.drive ∧ (s.buildTrim g height).dec = s.dec
      ∧ (s.buildTrim g height).laneA = s.laneA ∧ (s.buildTrim g height).laneB = s.laneB
      ∧ (s.buildTrim g height).merger = s.merger ∧ (s.buildTrim g height).pending = s.pending := by
  simp only [State.buildTrim]
  (repeat' split) <;> simp

@[simp] theorem State.trimStepAt_keeps (s : State) (height : Nat) :
    (s.trimStepAt height).now = s.now ∧ (s.trimStepAt height).free = s.free ∧ (s.trimStepAt height).cfg = s.cfg
      ∧ (s.trimStepAt height).stop = s.stop ∧ (s.trimStepAt height).claims = s.claims
      ∧ (s.trimStepAt height).dir = s.dir ∧ (s.trimStepAt height).cue = s.cue
      ∧ (s.trimStepAt height).drive = s.drive ∧ (s.trimStepAt height).dec = s.dec
      ∧ (s.trimStepAt height).laneA = s.laneA ∧ (s.trimStepAt height).laneB = s.laneB
      ∧ (s.trimStepAt height).merger = s.merger ∧ (s.trimStepAt height).pending = s.pending := by
  simp only [State.trimStepAt]
  (repeat' split) <;> simp

@[simp] theorem State.applyBrake_keeps (s : State) (motion : Motion) (purpose : Purpose) :
    (s.applyBrake motion purpose).now = s.now ∧ (s.applyBrake motion purpose).free = s.free
      ∧ (s.applyBrake motion purpose).cfg = s.cfg ∧ (s.applyBrake motion purpose).stop = s.stop
      ∧ (s.applyBrake motion purpose).claims = s.claims ∧ (s.applyBrake motion purpose).dir = s.dir
      ∧ (s.applyBrake motion purpose).cue = s.cue ∧ (s.applyBrake motion purpose).dec = s.dec
      ∧ (s.applyBrake motion purpose).tx = s.tx ∧ (s.applyBrake motion purpose).laneA = s.laneA
      ∧ (s.applyBrake motion purpose).laneB = s.laneB ∧ (s.applyBrake motion purpose).merger = s.merger
      ∧ (s.applyBrake motion purpose).port = s.port ∧ (s.applyBrake motion purpose).counters = s.counters
      ∧ (s.applyBrake motion purpose).pending = s.pending := by
  simp [State.applyBrake]

@[simp] theorem State.dropTorque_keeps (s : State) :
    (s.dropTorque).now = s.now ∧ (s.dropTorque).free = s.free ∧ (s.dropTorque).cfg = s.cfg
      ∧ (s.dropTorque).stop = s.stop ∧ (s.dropTorque).claims = s.claims ∧ (s.dropTorque).dir = s.dir
      ∧ (s.dropTorque).cue = s.cue ∧ (s.dropTorque).dec = s.dec ∧ (s.dropTorque).tx = s.tx
      ∧ (s.dropTorque).laneA = s.laneA ∧ (s.dropTorque).laneB = s.laneB ∧ (s.dropTorque).merger = s.merger
      ∧ (s.dropTorque).port = s.port ∧ (s.dropTorque).counters = s.counters ∧ (s.dropTorque).pending = s.pending := by
  simp [State.dropTorque]

@[simp] theorem State.enterPaused_keeps (s : State) :
    (s.enterPaused).now = s.now ∧ (s.enterPaused).free = s.free ∧ (s.enterPaused).cfg = s.cfg
      ∧ (s.enterPaused).stop = s.stop ∧ (s.enterPaused).claims = s.claims ∧ (s.enterPaused).dir = s.dir
      ∧ (s.enterPaused).cue = s.cue ∧ (s.enterPaused).drive = s.drive ∧ (s.enterPaused).dec = s.dec
      ∧ (s.enterPaused).tx = s.tx ∧ (s.enterPaused).laneA = s.laneA ∧ (s.enterPaused).laneB = s.laneB
      ∧ (s.enterPaused).merger = s.merger ∧ (s.enterPaused).port = s.port ∧ (s.enterPaused).counters = s.counters
      ∧ (s.enterPaused).pending = s.pending := by
  simp [State.enterPaused]

@[simp] theorem State.watchSpeed_keeps (s : State) (f : Feedback) :
    (s.watchSpeed f).now = s.now ∧ (s.watchSpeed f).free = s.free ∧ (s.watchSpeed f).cfg = s.cfg
      ∧ (s.watchSpeed f).stop = s.stop ∧ (s.watchSpeed f).claims = s.claims ∧ (s.watchSpeed f).dir = s.dir
      ∧ (s.watchSpeed f).cue = s.cue ∧ (s.watchSpeed f).drive = s.drive ∧ (s.watchSpeed f).dec = s.dec
      ∧ (s.watchSpeed f).tx = s.tx ∧ (s.watchSpeed f).laneA = s.laneA ∧ (s.watchSpeed f).laneB = s.laneB
      ∧ (s.watchSpeed f).merger = s.merger ∧ (s.watchSpeed f).port = s.port ∧ (s.watchSpeed f).counters = s.counters
      ∧ (s.watchSpeed f).pending = s.pending := by
  simp only [State.watchSpeed]
  (repeat' split) <;> simp

@[simp] theorem State.freezeFor_keeps (s : State) (f : Freeze) :
    (s.freezeFor f).now = s.now ∧ (s.freezeFor f).free = s.free ∧ (s.freezeFor f).cfg = s.cfg
      ∧ (s.freezeFor f).stop = s.stop ∧ (s.freezeFor f).claims = s.claims ∧ (s.freezeFor f).dir = s.dir
      ∧ (s.freezeFor f).exe = s.exe ∧ (s.freezeFor f).drive = s.drive ∧ (s.freezeFor f).dec = s.dec
      ∧ (s.freezeFor f).tx = s.tx ∧ (s.freezeFor f).laneA = s.laneA ∧ (s.freezeFor f).laneB = s.laneB
      ∧ (s.freezeFor f).merger = s.merger ∧ (s.freezeFor f).counters = s.counters
      ∧ (s.freezeFor f).pending = s.pending := by
  simp only [State.freezeFor]
  (repeat' split) <;> simp

@[simp] theorem State.freezeOnStop_keeps (s : State) :
    (s.freezeOnStop).now = s.now ∧ (s.freezeOnStop).free = s.free ∧ (s.freezeOnStop).cfg = s.cfg
      ∧ (s.freezeOnStop).stop = s.stop ∧ (s.freezeOnStop).claims = s.claims ∧ (s.freezeOnStop).dir = s.dir
      ∧ (s.freezeOnStop).exe = s.exe ∧ (s.freezeOnStop).drive = s.drive ∧ (s.freezeOnStop).dec = s.dec
      ∧ (s.freezeOnStop).tx = s.tx ∧ (s.freezeOnStop).laneA = s.laneA ∧ (s.freezeOnStop).laneB = s.laneB
      ∧ (s.freezeOnStop).merger = s.merger ∧ (s.freezeOnStop).counters = s.counters
      ∧ (s.freezeOnStop).pending = s.pending := by
  simp only [State.freezeOnStop]
  (repeat' split) <;> simp

@[simp] theorem State.startHead_keeps (s : State) (resumed : Bool) :
    (s.startHead resumed).now = s.now ∧ (s.startHead resumed).free = s.free ∧ (s.startHead resumed).cfg = s.cfg
      ∧ (s.startHead resumed).stop = s.stop ∧ (s.startHead resumed).claims = s.claims
      ∧ (s.startHead resumed).dir = s.dir ∧ (s.startHead resumed).drive = s.drive
      ∧ (s.startHead resumed).dec = s.dec ∧ (s.startHead resumed).laneA = s.laneA
      ∧ (s.startHead resumed).laneB = s.laneB ∧ (s.startHead resumed).merger = s.merger
      ∧ (s.startHead resumed).counters = s.counters ∧ (s.startHead resumed).pending = s.pending := by
  simp only [State.startHead]
  (repeat' split) <;> simp

@[simp] theorem State.startIfArmed_keeps (s : State) :
    (s.startIfArmed).now = s.now ∧ (s.startIfArmed).free = s.free ∧ (s.startIfArmed).cfg = s.cfg
      ∧ (s.startIfArmed).stop = s.stop ∧ (s.startIfArmed).claims = s.claims ∧ (s.startIfArmed).dir = s.dir
      ∧ (s.startIfArmed).drive = s.drive ∧ (s.startIfArmed).dec = s.dec ∧ (s.startIfArmed).laneA = s.laneA
      ∧ (s.startIfArmed).laneB = s.laneB ∧ (s.startIfArmed).merger = s.merger
      ∧ (s.startIfArmed).counters = s.counters ∧ (s.startIfArmed).pending = s.pending := by
  simp only [State.startIfArmed]
  (repeat' split) <;> simp

@[simp] theorem State.parkEffect_keeps (s : State) :
    (s.parkEffect).now = s.now ∧ (s.parkEffect).free = s.free ∧ (s.parkEffect).cfg = s.cfg
      ∧ (s.parkEffect).stop = s.stop ∧ (s.parkEffect).claims = s.claims ∧ (s.parkEffect).dir = s.dir
      ∧ (s.parkEffect).exe = s.exe ∧ (s.parkEffect).drive = s.drive ∧ (s.parkEffect).dec = s.dec
      ∧ (s.parkEffect).tx = s.tx ∧ (s.parkEffect).laneA = s.laneA ∧ (s.parkEffect).laneB = s.laneB
      ∧ (s.parkEffect).merger = s.merger ∧ (s.parkEffect).pending = s.pending := by
  simp only [State.parkEffect]
  (repeat' split) <;> simp

@[simp] theorem State.cueLeaves_keeps (s : State) (n : Nat) (moved : Bool) :
    (s.cueLeaves n moved).now = s.now ∧ (s.cueLeaves n moved).free = s.free ∧ (s.cueLeaves n moved).cfg = s.cfg
      ∧ (s.cueLeaves n moved).stop = s.stop ∧ (s.cueLeaves n moved).claims = s.claims
      ∧ (s.cueLeaves n moved).dir = s.dir ∧ (s.cueLeaves n moved).drive = s.drive
      ∧ (s.cueLeaves n moved).dec = s.dec ∧ (s.cueLeaves n moved).laneA = s.laneA
      ∧ (s.cueLeaves n moved).laneB = s.laneB ∧ (s.cueLeaves n moved).merger = s.merger
      ∧ (s.cueLeaves n moved).pending = s.pending := by
  simp only [State.cueLeaves]
  (repeat' split) <;> simp

@[simp] theorem State.completeHead_keeps (s : State) :
    (s.completeHead).now = s.now ∧ (s.completeHead).free = s.free ∧ (s.completeHead).cfg = s.cfg
      ∧ (s.completeHead).stop = s.stop ∧ (s.completeHead).claims = s.claims ∧ (s.completeHead).dir = s.dir
      ∧ (s.completeHead).drive = s.drive ∧ (s.completeHead).dec = s.dec ∧ (s.completeHead).laneA = s.laneA
      ∧ (s.completeHead).laneB = s.laneB ∧ (s.completeHead).merger = s.merger
      ∧ (s.completeHead).pending = s.pending := by
  simp only [State.completeHead]
  (repeat' split) <;> simp

@[simp] theorem State.cueDone_keeps (s : State) :
    (s.cueDone).now = s.now ∧ (s.cueDone).free = s.free ∧ (s.cueDone).cfg = s.cfg ∧ (s.cueDone).stop = s.stop
      ∧ (s.cueDone).claims = s.claims ∧ (s.cueDone).dir = s.dir ∧ (s.cueDone).drive = s.drive
      ∧ (s.cueDone).dec = s.dec ∧ (s.cueDone).laneA = s.laneA ∧ (s.cueDone).laneB = s.laneB
      ∧ (s.cueDone).merger = s.merger ∧ (s.cueDone).pending = s.pending := by
  simp only [State.cueDone]
  (repeat' split) <;> simp

@[simp] theorem State.finishSegment_keeps (s : State) :
    (s.finishSegment).now = s.now ∧ (s.finishSegment).free = s.free ∧ (s.finishSegment).cfg = s.cfg
      ∧ (s.finishSegment).stop = s.stop ∧ (s.finishSegment).claims = s.claims ∧ (s.finishSegment).dir = s.dir
      ∧ (s.finishSegment).drive = s.drive ∧ (s.finishSegment).dec = s.dec ∧ (s.finishSegment).laneA = s.laneA
      ∧ (s.finishSegment).laneB = s.laneB ∧ (s.finishSegment).merger = s.merger
      ∧ (s.finishSegment).pending = s.pending := by
  simp [State.finishSegment]

@[simp] theorem State.oweWithdraw_keeps (s : State) :
    (s.oweWithdraw).now = s.now ∧ (s.oweWithdraw).free = s.free ∧ (s.oweWithdraw).cfg = s.cfg
      ∧ (s.oweWithdraw).stop = s.stop ∧ (s.oweWithdraw).claims = s.claims ∧ (s.oweWithdraw).dir = s.dir
      ∧ (s.oweWithdraw).cue = s.cue ∧ (s.oweWithdraw).drive = s.drive ∧ (s.oweWithdraw).dec = s.dec
      ∧ (s.oweWithdraw).laneA = s.laneA ∧ (s.oweWithdraw).laneB = s.laneB ∧ (s.oweWithdraw).merger = s.merger
      ∧ (s.oweWithdraw).counters = s.counters ∧ (s.oweWithdraw).pending = s.pending := by
  simp [State.oweWithdraw]

@[simp] theorem State.giveUpClaim_keeps (s : State) :
    (s.giveUpClaim).now = s.now ∧ (s.giveUpClaim).free = s.free ∧ (s.giveUpClaim).cfg = s.cfg
      ∧ (s.giveUpClaim).stop = s.stop ∧ (s.giveUpClaim).claims = s.claims ∧ (s.giveUpClaim).dir = s.dir
      ∧ (s.giveUpClaim).drive = s.drive ∧ (s.giveUpClaim).dec = s.dec ∧ (s.giveUpClaim).laneA = s.laneA
      ∧ (s.giveUpClaim).laneB = s.laneB ∧ (s.giveUpClaim).merger = s.merger ∧ (s.giveUpClaim).pending = s.pending := by
  simp only [State.giveUpClaim]
  (repeat' split) <;> simp

@[simp] theorem State.executorStop_keeps (s : State) :
    (s.executorStop).now = s.now ∧ (s.executorStop).free = s.free ∧ (s.executorStop).cfg = s.cfg ∧ (s.executorStop).stop = s.stop
      ∧ (s.executorStop).claims = s.claims ∧ (s.executorStop).dir = s.dir ∧ (s.executorStop).dec = s.dec
      ∧ (s.executorStop).laneA = s.laneA ∧ (s.executorStop).laneB = s.laneB ∧ (s.executorStop).merger = s.merger
      ∧ (s.executorStop).pending = s.pending := by
  simp only [State.executorStop]
  (repeat' split) <;> simp

@[simp] theorem State.executorHalt_keeps (s : State) :
    (s.executorHalt).now = s.now ∧ (s.executorHalt).free = s.free ∧ (s.executorHalt).cfg = s.cfg ∧ (s.executorHalt).stop = s.stop
      ∧ (s.executorHalt).claims = s.claims ∧ (s.executorHalt).dir = s.dir ∧ (s.executorHalt).cue = s.cue
      ∧ (s.executorHalt).drive = s.drive ∧ (s.executorHalt).dec = s.dec ∧ (s.executorHalt).tx = s.tx
      ∧ (s.executorHalt).laneA = s.laneA ∧ (s.executorHalt).laneB = s.laneB ∧ (s.executorHalt).merger = s.merger
      ∧ (s.executorHalt).port = s.port ∧ (s.executorHalt).counters = s.counters
      ∧ (s.executorHalt).pending = s.pending := by
  simp only [State.executorHalt]
  (repeat' split) <;> simp

@[simp] theorem State.enterTripped_keeps (s : State) :
    (s.enterTripped).now = s.now ∧ (s.enterTripped).free = s.free ∧ (s.enterTripped).cfg = s.cfg
      ∧ (s.enterTripped).stop = s.stop ∧ (s.enterTripped).claims = s.claims ∧ (s.enterTripped).dir = s.dir
      ∧ (s.enterTripped).cue = s.cue ∧ (s.enterTripped).drive = s.drive ∧ (s.enterTripped).dec = s.dec
      ∧ (s.enterTripped).tx = s.tx ∧ (s.enterTripped).laneA = s.laneA ∧ (s.enterTripped).laneB = s.laneB
      ∧ (s.enterTripped).merger = s.merger ∧ (s.enterTripped).port = s.port ∧ (s.enterTripped).counters = s.counters
      ∧ (s.enterTripped).pending = s.pending := by
  simp only [State.enterTripped]
  (repeat' split) <;> simp

@[simp] theorem State.releaseAfterTrip_keeps (s : State) :
    (s.releaseAfterTrip).now = s.now
      ∧ (s.releaseAfterTrip).free = s.free
      ∧ (s.releaseAfterTrip).cfg = s.cfg
      ∧ (s.releaseAfterTrip).stop = s.stop
      ∧ (s.releaseAfterTrip).claims = s.claims
      ∧ (s.releaseAfterTrip).dir = s.dir
      ∧ (s.releaseAfterTrip).cue = s.cue
      ∧ (s.releaseAfterTrip).drive = s.drive
      ∧ (s.releaseAfterTrip).dec = s.dec
      ∧ (s.releaseAfterTrip).laneA = s.laneA
      ∧ (s.releaseAfterTrip).laneB = s.laneB
      ∧ (s.releaseAfterTrip).merger = s.merger
      ∧ (s.releaseAfterTrip).counters = s.counters
      ∧ (s.releaseAfterTrip).pending = s.pending := by
  simp [State.releaseAfterTrip]

@[simp] theorem State.executorTrip_keeps (s : State) :
    (s.executorTrip).now = s.now ∧ (s.executorTrip).free = s.free ∧ (s.executorTrip).cfg = s.cfg
      ∧ (s.executorTrip).stop = s.stop ∧ (s.executorTrip).claims = s.claims ∧ (s.executorTrip).dir = s.dir
      ∧ (s.executorTrip).drive = s.drive ∧ (s.executorTrip).dec = s.dec ∧ (s.executorTrip).laneA = s.laneA
      ∧ (s.executorTrip).laneB = s.laneB ∧ (s.executorTrip).merger = s.merger
      ∧ (s.executorTrip).pending = s.pending := by
  simp only [State.executorTrip]
  (repeat' split) <;> simp

@[simp] theorem State.reportHeld_keeps (s : State) :
    (s.reportHeld).now = s.now ∧ (s.reportHeld).free = s.free ∧ (s.reportHeld).cfg = s.cfg
      ∧ (s.reportHeld).stop = s.stop ∧ (s.reportHeld).claims = s.claims ∧ (s.reportHeld).dir = s.dir
      ∧ (s.reportHeld).cue = s.cue ∧ (s.reportHeld).dec = s.dec ∧ (s.reportHeld).laneA = s.laneA
      ∧ (s.reportHeld).laneB = s.laneB ∧ (s.reportHeld).merger = s.merger ∧ (s.reportHeld).counters = s.counters
      ∧ (s.reportHeld).pending = s.pending := by
  simp only [State.reportHeld]
  (repeat' split) <;> simp

@[simp] theorem State.resumeMotion_keeps (s : State) :
    (s.resumeMotion).now = s.now ∧ (s.resumeMotion).free = s.free ∧ (s.resumeMotion).cfg = s.cfg
      ∧ (s.resumeMotion).stop = s.stop ∧ (s.resumeMotion).claims = s.claims ∧ (s.resumeMotion).dir = s.dir
      ∧ (s.resumeMotion).cue = s.cue ∧ (s.resumeMotion).dec = s.dec ∧ (s.resumeMotion).laneA = s.laneA
      ∧ (s.resumeMotion).laneB = s.laneB ∧ (s.resumeMotion).merger = s.merger
      ∧ (s.resumeMotion).counters = s.counters ∧ (s.resumeMotion).pending = s.pending := by
  simp only [State.resumeMotion]
  (repeat' split) <;> simp

@[simp] theorem State.becomeActive_keeps (s : State) :
    (s.becomeActive).now = s.now ∧ (s.becomeActive).free = s.free ∧ (s.becomeActive).cfg = s.cfg
      ∧ (s.becomeActive).claims = s.claims ∧ (s.becomeActive).dir = s.dir ∧ (s.becomeActive).cue = s.cue
      ∧ (s.becomeActive).dec = s.dec ∧ (s.becomeActive).laneA = s.laneA ∧ (s.becomeActive).laneB = s.laneB
      ∧ (s.becomeActive).merger = s.merger ∧ (s.becomeActive).counters = s.counters
      ∧ (s.becomeActive).pending = s.pending := by
  simp [State.becomeActive]

@[simp] theorem State.settled_keeps (s : State) :
    (s.settled).now = s.now ∧ (s.settled).free = s.free ∧ (s.settled).cfg = s.cfg ∧ (s.settled).stop = s.stop
      ∧ (s.settled).claims = s.claims ∧ (s.settled).dir = s.dir ∧ (s.settled).dec = s.dec
      ∧ (s.settled).laneA = s.laneA ∧ (s.settled).laneB = s.laneB ∧ (s.settled).merger = s.merger
      ∧ (s.settled).pending = s.pending := by
  simp only [State.settled]
  (repeat' split) <;> simp

@[simp] theorem State.pauseApplied_keeps (s : State) :
    (s.pauseApplied).now = s.now ∧ (s.pauseApplied).free = s.free ∧ (s.pauseApplied).cfg = s.cfg
      ∧ (s.pauseApplied).stop = s.stop ∧ (s.pauseApplied).claims = s.claims ∧ (s.pauseApplied).dir = s.dir
      ∧ (s.pauseApplied).cue = s.cue ∧ (s.pauseApplied).dec = s.dec ∧ (s.pauseApplied).laneA = s.laneA
      ∧ (s.pauseApplied).laneB = s.laneB ∧ (s.pauseApplied).merger = s.merger
      ∧ (s.pauseApplied).counters = s.counters ∧ (s.pauseApplied).pending = s.pending := by
  simp only [State.pauseApplied]
  (repeat' split) <;> simp

@[simp] theorem State.standstillReached_keeps (s : State) :
    (s.standstillReached).now = s.now ∧ (s.standstillReached).free = s.free ∧ (s.standstillReached).cfg = s.cfg
      ∧ (s.standstillReached).stop = s.stop ∧ (s.standstillReached).claims = s.claims
      ∧ (s.standstillReached).dir = s.dir ∧ (s.standstillReached).cue = s.cue ∧ (s.standstillReached).dec = s.dec
      ∧ (s.standstillReached).laneA = s.laneA ∧ (s.standstillReached).laneB = s.laneB
      ∧ (s.standstillReached).merger = s.merger ∧ (s.standstillReached).counters = s.counters
      ∧ (s.standstillReached).pending = s.pending := by
  simp only [State.standstillReached]
  (repeat' split) <;> simp

@[simp] theorem State.tripRested_keeps (s : State) :
    (s.tripRested).now = s.now ∧ (s.tripRested).free = s.free ∧ (s.tripRested).cfg = s.cfg
      ∧ (s.tripRested).stop = s.stop ∧ (s.tripRested).claims = s.claims ∧ (s.tripRested).dir = s.dir
      ∧ (s.tripRested).cue = s.cue ∧ (s.tripRested).dec = s.dec ∧ (s.tripRested).laneA = s.laneA
      ∧ (s.tripRested).laneB = s.laneB ∧ (s.tripRested).merger = s.merger ∧ (s.tripRested).counters = s.counters
      ∧ (s.tripRested).pending = s.pending := by
  simp only [State.tripRested]
  (repeat' split) <;> simp

@[simp] theorem State.withdrawEchoed_keeps (s : State) :
    (s.withdrawEchoed).now = s.now ∧ (s.withdrawEchoed).free = s.free ∧ (s.withdrawEchoed).cfg = s.cfg
      ∧ (s.withdrawEchoed).stop = s.stop ∧ (s.withdrawEchoed).claims = s.claims ∧ (s.withdrawEchoed).dir = s.dir
      ∧ (s.withdrawEchoed).drive = s.drive ∧ (s.withdrawEchoed).dec = s.dec ∧ (s.withdrawEchoed).laneA = s.laneA
      ∧ (s.withdrawEchoed).laneB = s.laneB ∧ (s.withdrawEchoed).merger = s.merger
      ∧ (s.withdrawEchoed).pending = s.pending := by
  simp only [State.withdrawEchoed]
  (repeat' split) <;> simp

@[simp] theorem State.releaseEchoed_keeps (s : State) :
    (s.releaseEchoed).now = s.now ∧ (s.releaseEchoed).free = s.free ∧ (s.releaseEchoed).cfg = s.cfg
      ∧ (s.releaseEchoed).stop = s.stop ∧ (s.releaseEchoed).claims = s.claims ∧ (s.releaseEchoed).dir = s.dir
      ∧ (s.releaseEchoed).drive = s.drive ∧ (s.releaseEchoed).dec = s.dec ∧ (s.releaseEchoed).laneA = s.laneA
      ∧ (s.releaseEchoed).laneB = s.laneB ∧ (s.releaseEchoed).merger = s.merger
      ∧ (s.releaseEchoed).pending = s.pending := by
  simp only [State.releaseEchoed]
  (repeat' split) <;> simp

@[simp] theorem State.frameTakenAway_keeps (s : State) :
    (s.frameTakenAway).now = s.now ∧ (s.frameTakenAway).free = s.free ∧ (s.frameTakenAway).cfg = s.cfg
      ∧ (s.frameTakenAway).stop = s.stop ∧ (s.frameTakenAway).claims = s.claims ∧ (s.frameTakenAway).dir = s.dir
      ∧ (s.frameTakenAway).drive = s.drive ∧ (s.frameTakenAway).dec = s.dec ∧ (s.frameTakenAway).laneA = s.laneA
      ∧ (s.frameTakenAway).laneB = s.laneB ∧ (s.frameTakenAway).merger = s.merger
      ∧ (s.frameTakenAway).pending = s.pending := by
  simp only [State.frameTakenAway]
  (repeat' split) <;> simp

@[simp] theorem State.openEpisode_keeps (s : State) (cause : StopCause) (source : Option Nat) :
    (s.openEpisode cause source).now = s.now ∧ (s.openEpisode cause source).free = s.free
      ∧ (s.openEpisode cause source).cfg = s.cfg ∧ (s.openEpisode cause source).claims = s.claims
      ∧ (s.openEpisode cause source).dir = s.dir ∧ (s.openEpisode cause source).exe = s.exe
      ∧ (s.openEpisode cause source).drive = s.drive ∧ (s.openEpisode cause source).dec = s.dec
      ∧ (s.openEpisode cause source).tx = s.tx ∧ (s.openEpisode cause source).laneA = s.laneA
      ∧ (s.openEpisode cause source).laneB = s.laneB ∧ (s.openEpisode cause source).merger = s.merger
      ∧ (s.openEpisode cause source).counters = s.counters ∧ (s.openEpisode cause source).pending = s.pending := by
  simp [State.openEpisode]

@[simp] theorem State.addCause_keeps (s : State) :
    (s.addCause).now = s.now ∧ (s.addCause).free = s.free ∧ (s.addCause).cfg = s.cfg
      ∧ (s.addCause).claims = s.claims ∧ (s.addCause).dir = s.dir ∧ (s.addCause).cue = s.cue
      ∧ (s.addCause).exe = s.exe ∧ (s.addCause).drive = s.drive ∧ (s.addCause).dec = s.dec ∧ (s.addCause).tx = s.tx
      ∧ (s.addCause).laneA = s.laneA ∧ (s.addCause).laneB = s.laneB ∧ (s.addCause).merger = s.merger
      ∧ (s.addCause).port = s.port ∧ (s.addCause).counters = s.counters ∧ (s.addCause).pending = s.pending := by
  simp only [State.addCause]
  (repeat' split) <;> simp

@[simp] theorem State.controlledStop_keeps (s : State) (cause : StopCause) (source : Option Nat) :
    (s.controlledStop cause source).now = s.now ∧ (s.controlledStop cause source).free = s.free ∧ (s.controlledStop cause source).cfg = s.cfg
      ∧ (s.controlledStop cause source).claims = s.claims ∧ (s.controlledStop cause source).dir = s.dir
      ∧ (s.controlledStop cause source).dec = s.dec ∧ (s.controlledStop cause source).laneA = s.laneA
      ∧ (s.controlledStop cause source).laneB = s.laneB ∧ (s.controlledStop cause source).merger = s.merger
      ∧ (s.controlledStop cause source).pending = s.pending := by
  simp only [State.controlledStop]
  (repeat' split) <;> simp

@[simp] theorem State.immediateStop_keeps (s : State) (cause : StopCause) :
    (s.immediateStop cause).now = s.now ∧ (s.immediateStop cause).free = s.free
      ∧ (s.immediateStop cause).cfg = s.cfg ∧ (s.immediateStop cause).claims = s.claims
      ∧ (s.immediateStop cause).dir = s.dir ∧ (s.immediateStop cause).dec = s.dec
      ∧ (s.immediateStop cause).laneA = s.laneA ∧ (s.immediateStop cause).laneB = s.laneB
      ∧ (s.immediateStop cause).merger = s.merger ∧ (s.immediateStop cause).pending = s.pending := by
  simp only [State.immediateStop]
  (repeat' split) <;> simp

@[simp] theorem State.takeHalt_keeps (s : State) :
    (s.takeHalt).now = s.now ∧ (s.takeHalt).free = s.free ∧ (s.takeHalt).cfg = s.cfg ∧ (s.takeHalt).claims = s.claims
      ∧ (s.takeHalt).dir = s.dir ∧ (s.takeHalt).cue = s.cue ∧ (s.takeHalt).drive = s.drive
      ∧ (s.takeHalt).dec = s.dec ∧ (s.takeHalt).tx = s.tx ∧ (s.takeHalt).laneA = s.laneA
      ∧ (s.takeHalt).laneB = s.laneB ∧ (s.takeHalt).merger = s.merger ∧ (s.takeHalt).pending = s.pending := by
  simp only [State.takeHalt]
  (repeat' split) <;> simp

@[simp] theorem State.takeClear_keeps (s : State) :
    (s.takeClear).now = s.now ∧ (s.takeClear).free = s.free ∧ (s.takeClear).cfg = s.cfg
      ∧ (s.takeClear).claims = s.claims ∧ (s.takeClear).dir = s.dir ∧ (s.takeClear).laneA = s.laneA
      ∧ (s.takeClear).laneB = s.laneB ∧ (s.takeClear).merger = s.merger ∧ (s.takeClear).pending = s.pending := by
  simp only [State.takeClear]
  (repeat' split) <;> simp

@[simp] theorem State.dropReservations_keeps (s : State) :
    (s.dropReservations).now = s.now ∧ (s.dropReservations).free = s.free ∧ (s.dropReservations).cfg = s.cfg
      ∧ (s.dropReservations).stop = s.stop ∧ (s.dropReservations).claims = s.claims
      ∧ (s.dropReservations).dir = s.dir ∧ (s.dropReservations).cue = s.cue ∧ (s.dropReservations).exe = s.exe
      ∧ (s.dropReservations).drive = s.drive ∧ (s.dropReservations).dec = s.dec
      ∧ (s.dropReservations).laneA = s.laneA ∧ (s.dropReservations).laneB = s.laneB
      ∧ (s.dropReservations).merger = s.merger ∧ (s.dropReservations).counters = s.counters
      ∧ (s.dropReservations).pending = s.pending := by
  simp [State.dropReservations]

@[simp] theorem State.duplicateEvent_keeps (s : State) :
    (s.duplicateEvent).now = s.now ∧ (s.duplicateEvent).free = s.free ∧ (s.duplicateEvent).cfg = s.cfg ∧ (s.duplicateEvent).claims = s.claims
      ∧ (s.duplicateEvent).dec = s.dec ∧ (s.duplicateEvent).laneA = s.laneA ∧ (s.duplicateEvent).laneB = s.laneB
      ∧ (s.duplicateEvent).merger = s.merger ∧ (s.duplicateEvent).pending = s.pending := by
  simp only [State.duplicateEvent]
  (repeat' split) <;> simp

@[simp] theorem State.queueLocalStop_keeps (s : State) :
    (s.queueLocalStop).now = s.now ∧ (s.queueLocalStop).free = s.free ∧ (s.queueLocalStop).cfg = s.cfg
      ∧ (s.queueLocalStop).stop = s.stop ∧ (s.queueLocalStop).claims = s.claims ∧ (s.queueLocalStop).dir = s.dir
      ∧ (s.queueLocalStop).cue = s.cue ∧ (s.queueLocalStop).exe = s.exe ∧ (s.queueLocalStop).drive = s.drive
      ∧ (s.queueLocalStop).dec = s.dec ∧ (s.queueLocalStop).laneA = s.laneA ∧ (s.queueLocalStop).laneB = s.laneB
      ∧ (s.queueLocalStop).merger = s.merger ∧ (s.queueLocalStop).counters = s.counters
      ∧ (s.queueLocalStop).pending = s.pending := by
  simp only [State.queueLocalStop]
  (repeat' split) <;> simp

@[simp] theorem State.localStopRequest_keeps (s : State) :
    (s.localStopRequest).now = s.now ∧ (s.localStopRequest).free = s.free ∧ (s.localStopRequest).cfg = s.cfg ∧ (s.localStopRequest).claims = s.claims
      ∧ (s.localStopRequest).dir = s.dir ∧ (s.localStopRequest).dec = s.dec ∧ (s.localStopRequest).laneA = s.laneA
      ∧ (s.localStopRequest).laneB = s.laneB ∧ (s.localStopRequest).merger = s.merger
      ∧ (s.localStopRequest).pending = s.pending := by
  simp only [State.localStopRequest]
  (repeat' split) <;> simp

@[simp] theorem State.queueWatchStop_keeps (s : State) (peer : Nat) (cause : SafeCause) :
    (s.queueWatchStop peer cause).now = s.now ∧ (s.queueWatchStop peer cause).free = s.free
      ∧ (s.queueWatchStop peer cause).cfg = s.cfg ∧ (s.queueWatchStop peer cause).stop = s.stop
      ∧ (s.queueWatchStop peer cause).claims = s.claims ∧ (s.queueWatchStop peer cause).dir = s.dir
      ∧ (s.queueWatchStop peer cause).cue = s.cue ∧ (s.queueWatchStop peer cause).exe = s.exe
      ∧ (s.queueWatchStop peer cause).drive = s.drive ∧ (s.queueWatchStop peer cause).dec = s.dec
      ∧ (s.queueWatchStop peer cause).laneA = s.laneA ∧ (s.queueWatchStop peer cause).laneB = s.laneB
      ∧ (s.queueWatchStop peer cause).merger = s.merger ∧ (s.queueWatchStop peer cause).pending = s.pending := by
  simp only [State.queueWatchStop]
  (repeat' split) <;> simp

@[simp] theorem State.reportSweep_keeps (s : State) (before : Option Claim) (reentered : Bool) :
    (s.reportSweep before reentered).now = s.now ∧ (s.reportSweep before reentered).free = s.free
      ∧ (s.reportSweep before reentered).cfg = s.cfg ∧ (s.reportSweep before reentered).stop = s.stop
      ∧ (s.reportSweep before reentered).claims = s.claims ∧ (s.reportSweep before reentered).dir = s.dir
      ∧ (s.reportSweep before reentered).cue = s.cue ∧ (s.reportSweep before reentered).dec = s.dec
      ∧ (s.reportSweep before reentered).laneA = s.laneA ∧ (s.reportSweep before reentered).laneB = s.laneB
      ∧ (s.reportSweep before reentered).merger = s.merger ∧ (s.reportSweep before reentered).counters = s.counters
      ∧ (s.reportSweep before reentered).pending = s.pending := by
  simp only [State.reportSweep]
  (repeat' split) <;> simp

@[simp] theorem State.checkCollision_keeps (s : State) (before : List (Bool × Nat × Bool)) :
    (s.checkCollision before).now = s.now ∧ (s.checkCollision before).free = s.free ∧ (s.checkCollision before).cfg = s.cfg
      ∧ (s.checkCollision before).claims = s.claims ∧ (s.checkCollision before).dir = s.dir
      ∧ (s.checkCollision before).dec = s.dec ∧ (s.checkCollision before).laneA = s.laneA
      ∧ (s.checkCollision before).laneB = s.laneB ∧ (s.checkCollision before).merger = s.merger
      ∧ (s.checkCollision before).pending = s.pending := by
  simp only [State.checkCollision]
  (repeat' split) <;> simp

@[simp] theorem State.passIfChanged_keeps (s₀ s : State) :
    (s₀.passIfChanged s).now = s.now
      ∧ (s₀.passIfChanged s).free = s.free
      ∧ (s₀.passIfChanged s).cfg = s.cfg
      ∧ (s₀.passIfChanged s).stop = s.stop
      ∧ (s₀.passIfChanged s).dir = s.dir
      ∧ (s₀.passIfChanged s).cue = s.cue
      ∧ (s₀.passIfChanged s).exe = s.exe
      ∧ (s₀.passIfChanged s).drive = s.drive
      ∧ (s₀.passIfChanged s).dec = s.dec
      ∧ (s₀.passIfChanged s).tx = s.tx
      ∧ (s₀.passIfChanged s).laneA = s.laneA
      ∧ (s₀.passIfChanged s).laneB = s.laneB
      ∧ (s₀.passIfChanged s).merger = s.merger
      ∧ (s₀.passIfChanged s).port = s.port
      ∧ (s₀.passIfChanged s).counters = s.counters
      ∧ (s₀.passIfChanged s).pending = s.pending := by
  simp only [State.passIfChanged]
  split <;> simp

@[simp] theorem State.flagIfChanged_keeps (s₀ s : State) :
    (s₀.flagIfChanged s).now = s.now
      ∧ (s₀.flagIfChanged s).free = s.free
      ∧ (s₀.flagIfChanged s).cfg = s.cfg
      ∧ (s₀.flagIfChanged s).stop = s.stop
      ∧ (s₀.flagIfChanged s).claims = s.claims
      ∧ (s₀.flagIfChanged s).dir = s.dir
      ∧ (s₀.flagIfChanged s).cue = s.cue
      ∧ (s₀.flagIfChanged s).exe = s.exe
      ∧ (s₀.flagIfChanged s).drive = s.drive
      ∧ (s₀.flagIfChanged s).dec = s.dec
      ∧ (s₀.flagIfChanged s).tx = s.tx
      ∧ (s₀.flagIfChanged s).laneA = s.laneA
      ∧ (s₀.flagIfChanged s).laneB = s.laneB
      ∧ (s₀.flagIfChanged s).merger = s.merger
      ∧ (s₀.flagIfChanged s).counters = s.counters
      ∧ (s₀.flagIfChanged s).pending = s.pending := by
  simp only [State.flagIfChanged]
  split <;> simp

@[simp] theorem State.closeEvaluation_keeps (s₀ s : State) (reentered : Bool) (echoed : State → State)
    (h : ∀ t : State, (echoed t).now = t.now ∧ (echoed t).free = t.free ∧ (echoed t).cfg = t.cfg ∧ (echoed t).dir = t.dir ∧ (echoed t).dec = t.dec
      ∧ (echoed t).laneA = t.laneA ∧ (echoed t).laneB = t.laneB ∧ (echoed t).merger = t.merger
      ∧ (echoed t).pending = t.pending) :
    (s₀.closeEvaluation s reentered echoed).now = s.now ∧ (s₀.closeEvaluation s reentered echoed).free = s.free
      ∧ (s₀.closeEvaluation s reentered echoed).cfg = s.cfg
      ∧ (s₀.closeEvaluation s reentered echoed).dir = s.dir ∧ (s₀.closeEvaluation s reentered echoed).dec = s.dec
      ∧ (s₀.closeEvaluation s reentered echoed).laneA = s.laneA
      ∧ (s₀.closeEvaluation s reentered echoed).laneB = s.laneB
      ∧ (s₀.closeEvaluation s reentered echoed).merger = s.merger
      ∧ (s₀.closeEvaluation s reentered echoed).pending = s.pending := by
  unfold State.closeEvaluation
  simp [h]

@[simp] theorem State.tableFull_keeps (s : State) :
    (s.tableFull).now = s.now ∧ (s.tableFull).free = s.free ∧ (s.tableFull).cfg = s.cfg
      ∧ (s.tableFull).stop = s.stop ∧ (s.tableFull).dir = s.dir ∧ (s.tableFull).cue = s.cue
      ∧ (s.tableFull).exe = s.exe ∧ (s.tableFull).drive = s.drive ∧ (s.tableFull).dec = s.dec
      ∧ (s.tableFull).tx = s.tx ∧ (s.tableFull).laneA = s.laneA ∧ (s.tableFull).laneB = s.laneB
      ∧ (s.tableFull).merger = s.merger ∧ (s.tableFull).pending = s.pending := by
  simp [State.tableFull]

@[simp] theorem State.evalClaim_keeps (s : State) (n : Nat) (depth vertical : Band) (precedence cue index : Nat) :
    (s.evalClaim n depth vertical precedence cue index).now = s.now ∧ (s.evalClaim n depth vertical precedence cue index).free = s.free
      ∧ (s.evalClaim n depth vertical precedence cue index).cfg = s.cfg
      ∧ (s.evalClaim n depth vertical precedence cue index).dir = s.dir
      ∧ (s.evalClaim n depth vertical precedence cue index).dec = s.dec
      ∧ (s.evalClaim n depth vertical precedence cue index).laneA = s.laneA
      ∧ (s.evalClaim n depth vertical precedence cue index).laneB = s.laneB
      ∧ (s.evalClaim n depth vertical precedence cue index).merger = s.merger
      ∧ (s.evalClaim n depth vertical precedence cue index).pending = s.pending := by
  simp only [State.evalClaim]
  (repeat' split) <;> simp

@[simp] theorem State.evalTrim_keeps (s : State) (n cue index : Nat) (vertical : Band) :
    (s.evalTrim n cue index vertical).now = s.now ∧ (s.evalTrim n cue index vertical).free = s.free ∧ (s.evalTrim n cue index vertical).cfg = s.cfg
      ∧ (s.evalTrim n cue index vertical).dir = s.dir ∧ (s.evalTrim n cue index vertical).dec = s.dec
      ∧ (s.evalTrim n cue index vertical).laneA = s.laneA ∧ (s.evalTrim n cue index vertical).laneB = s.laneB
      ∧ (s.evalTrim n cue index vertical).merger = s.merger
      ∧ (s.evalTrim n cue index vertical).pending = s.pending := by
  simp only [State.evalTrim]
  (repeat' split) <;> simp

@[simp] theorem State.evalRelease_keeps (s : State) (n : Nat) (depth vertical : Band) (echoed : State → State)
    (h : ∀ t : State, (echoed t).now = t.now ∧ (echoed t).free = t.free ∧ (echoed t).cfg = t.cfg ∧ (echoed t).dir = t.dir ∧ (echoed t).dec = t.dec
      ∧ (echoed t).laneA = t.laneA ∧ (echoed t).laneB = t.laneB ∧ (echoed t).merger = t.merger
      ∧ (echoed t).pending = t.pending) :
    (s.evalRelease n depth vertical echoed).now = s.now ∧ (s.evalRelease n depth vertical echoed).free = s.free
      ∧ (s.evalRelease n depth vertical echoed).cfg = s.cfg
      ∧ (s.evalRelease n depth vertical echoed).dir = s.dir ∧ (s.evalRelease n depth vertical echoed).dec = s.dec
      ∧ (s.evalRelease n depth vertical echoed).laneA = s.laneA
      ∧ (s.evalRelease n depth vertical echoed).laneB = s.laneB
      ∧ (s.evalRelease n depth vertical echoed).merger = s.merger
      ∧ (s.evalRelease n depth vertical echoed).pending = s.pending := by
  unfold State.evalRelease
  split <;> simp [h]

@[simp] theorem State.evalWithdraw_keeps (s : State) (n : Nat) (echoed : State → State)
    (h : ∀ t : State, (echoed t).now = t.now ∧ (echoed t).free = t.free ∧ (echoed t).cfg = t.cfg ∧ (echoed t).dir = t.dir ∧ (echoed t).dec = t.dec
      ∧ (echoed t).laneA = t.laneA ∧ (echoed t).laneB = t.laneB ∧ (echoed t).merger = t.merger
      ∧ (echoed t).pending = t.pending) :
    (s.evalWithdraw n echoed).now = s.now ∧ (s.evalWithdraw n echoed).free = s.free
      ∧ (s.evalWithdraw n echoed).cfg = s.cfg
      ∧ (s.evalWithdraw n echoed).dir = s.dir ∧ (s.evalWithdraw n echoed).dec = s.dec
      ∧ (s.evalWithdraw n echoed).laneA = s.laneA ∧ (s.evalWithdraw n echoed).laneB = s.laneB
      ∧ (s.evalWithdraw n echoed).merger = s.merger ∧ (s.evalWithdraw n echoed).pending = s.pending := by
  unfold State.evalWithdraw
  split <;> simp [h]

@[simp] theorem State.evalListed_keeps (s₀ s : State) (n : Nat) (claims : List ClaimRecord) :
    (s₀.evalListed s n claims).now = s.now ∧ (s₀.evalListed s n claims).free = s.free ∧ (s₀.evalListed s n claims).cfg = s.cfg
      ∧ (s₀.evalListed s n claims).dir = s.dir ∧ (s₀.evalListed s n claims).dec = s.dec
      ∧ (s₀.evalListed s n claims).laneA = s.laneA ∧ (s₀.evalListed s n claims).laneB = s.laneB
      ∧ (s₀.evalListed s n claims).merger = s.merger ∧ (s₀.evalListed s n claims).pending = s.pending := by
  simp only [State.evalListed]
  (repeat' split) <;> simp

@[simp] theorem State.evalRecord_keeps (s : State) (n : Nat) (r : DirRecord) (claims : List ClaimRecord) (keepStatus : Bool) :
    (s.evalRecord n r claims keepStatus).now = s.now ∧ (s.evalRecord n r claims keepStatus).free = s.free ∧ (s.evalRecord n r claims keepStatus).cfg = s.cfg
      ∧ (s.evalRecord n r claims keepStatus).laneA = s.laneA ∧ (s.evalRecord n r claims keepStatus).laneB = s.laneB
      ∧ (s.evalRecord n r claims keepStatus).merger = s.merger
      ∧ (s.evalRecord n r claims keepStatus).pending = s.pending := by
  simp only [State.evalRecord]
  (repeat' split) <;> simp

@[simp] theorem State.evalRequest_keeps (s : State) (own : Bool) :
    (s.evalRequest own).now = s.now ∧ (s.evalRequest own).free = s.free ∧ (s.evalRequest own).cfg = s.cfg
      ∧ (s.evalRequest own).stop = s.stop ∧ (s.evalRequest own).dir = s.dir ∧ (s.evalRequest own).cue = s.cue
      ∧ (s.evalRequest own).exe = s.exe ∧ (s.evalRequest own).drive = s.drive ∧ (s.evalRequest own).dec = s.dec
      ∧ (s.evalRequest own).laneA = s.laneA ∧ (s.evalRequest own).laneB = s.laneB
      ∧ (s.evalRequest own).merger = s.merger ∧ (s.evalRequest own).counters = s.counters
      ∧ (s.evalRequest own).pending = s.pending := by
  simp only [State.evalRequest]
  (repeat' split) <;> simp

@[simp] theorem State.unknownRequest_keeps (s : State) :
    (s.unknownRequest).now = s.now ∧ (s.unknownRequest).free = s.free ∧ (s.unknownRequest).cfg = s.cfg
      ∧ (s.unknownRequest).stop = s.stop ∧ (s.unknownRequest).dir = s.dir ∧ (s.unknownRequest).cue = s.cue
      ∧ (s.unknownRequest).exe = s.exe ∧ (s.unknownRequest).drive = s.drive ∧ (s.unknownRequest).dec = s.dec
      ∧ (s.unknownRequest).laneA = s.laneA ∧ (s.unknownRequest).laneB = s.laneB
      ∧ (s.unknownRequest).merger = s.merger ∧ (s.unknownRequest).pending = s.pending := by
  simp only [State.unknownRequest]
  (repeat' split) <;> simp

@[simp] theorem State.unknownSource_keeps (s : State) :
    (s.unknownSource).now = s.now ∧ (s.unknownSource).free = s.free ∧ (s.unknownSource).cfg = s.cfg
      ∧ (s.unknownSource).stop = s.stop ∧ (s.unknownSource).dir = s.dir ∧ (s.unknownSource).cue = s.cue
      ∧ (s.unknownSource).exe = s.exe ∧ (s.unknownSource).drive = s.drive ∧ (s.unknownSource).dec = s.dec
      ∧ (s.unknownSource).laneA = s.laneA ∧ (s.unknownSource).laneB = s.laneB ∧ (s.unknownSource).merger = s.merger
      ∧ (s.unknownSource).pending = s.pending := by
  simp only [State.unknownSource]
  (repeat' split) <;> simp

@[simp] theorem State.announced_keeps (s : State) (r : DirRecord) (claims : List ClaimRecord) :
    (s.announced r claims).now = s.now ∧ (s.announced r claims).free = s.free ∧ (s.announced r claims).cfg = s.cfg
      ∧ (s.announced r claims).laneA = s.laneA ∧ (s.announced r claims).laneB = s.laneB
      ∧ (s.announced r claims).merger = s.merger ∧ (s.announced r claims).pending = s.pending := by
  simp [State.announced]

@[simp] theorem State.endJoin_keeps (s : State) :
    (s.endJoin).now = s.now ∧ (s.endJoin).free = s.free ∧ (s.endJoin).cfg = s.cfg
      ∧ (s.endJoin).claims = s.claims ∧ (s.endJoin).dir = s.dir ∧ (s.endJoin).dec = s.dec
      ∧ (s.endJoin).laneA = s.laneA ∧ (s.endJoin).laneB = s.laneB ∧ (s.endJoin).merger = s.merger
      ∧ (s.endJoin).counters = s.counters ∧ (s.endJoin).pending = s.pending := by
  simp only [State.endJoin]
  (repeat' split) <;> simp

@[simp] theorem State.windowEnds_keeps (s : State) :
    (s.windowEnds).now = s.now ∧ (s.windowEnds).free = s.free ∧ (s.windowEnds).cfg = s.cfg
      ∧ (s.windowEnds).dir = s.dir ∧ (s.windowEnds).dec = s.dec ∧ (s.windowEnds).laneA = s.laneA
      ∧ (s.windowEnds).laneB = s.laneB ∧ (s.windowEnds).merger = s.merger ∧ (s.windowEnds).pending = s.pending := by
  simp only [State.windowEnds]
  (repeat' split) <;> simp

@[simp] theorem State.watchStops_keeps (s : State) (e : Entry) (r : StatusReport) (cause : SafeCause) :
    (s.watchStops e r cause).now = s.now ∧ (s.watchStops e r cause).free = s.free
      ∧ (s.watchStops e r cause).cfg = s.cfg ∧ (s.watchStops e r cause).stop = s.stop
      ∧ (s.watchStops e r cause).claims = s.claims ∧ (s.watchStops e r cause).dir = s.dir
      ∧ (s.watchStops e r cause).cue = s.cue ∧ (s.watchStops e r cause).exe = s.exe
      ∧ (s.watchStops e r cause).drive = s.drive ∧ (s.watchStops e r cause).dec = s.dec
      ∧ (s.watchStops e r cause).laneA = s.laneA ∧ (s.watchStops e r cause).laneB = s.laneB
      ∧ (s.watchStops e r cause).merger = s.merger ∧ (s.watchStops e r cause).pending = s.pending := by
  simp only [State.watchStops]
  (repeat' split) <;> simp

@[simp] theorem State.watchTests_keeps (s : State) (e : Entry) (r : StatusReport) (theirs ours : Nat) :
    (s.watchTests e r theirs ours).now = s.now ∧ (s.watchTests e r theirs ours).free = s.free ∧ (s.watchTests e r theirs ours).cfg = s.cfg
      ∧ (s.watchTests e r theirs ours).claims = s.claims ∧ (s.watchTests e r theirs ours).dir = s.dir
      ∧ (s.watchTests e r theirs ours).dec = s.dec ∧ (s.watchTests e r theirs ours).laneA = s.laneA
      ∧ (s.watchTests e r theirs ours).laneB = s.laneB ∧ (s.watchTests e r theirs ours).merger = s.merger
      ∧ (s.watchTests e r theirs ours).pending = s.pending := by
  simp only [State.watchTests]
  (repeat' split) <;> simp

@[simp] theorem State.watchReport_keeps (s : State) (e : Entry) (r : StatusReport) :
    (s.watchReport e r).now = s.now ∧ (s.watchReport e r).free = s.free ∧ (s.watchReport e r).cfg = s.cfg ∧ (s.watchReport e r).claims = s.claims
      ∧ (s.watchReport e r).dir = s.dir ∧ (s.watchReport e r).dec = s.dec ∧ (s.watchReport e r).laneA = s.laneA
      ∧ (s.watchReport e r).laneB = s.laneB ∧ (s.watchReport e r).merger = s.merger
      ∧ (s.watchReport e r).pending = s.pending := by
  simp only [State.watchReport]
  (repeat' split) <;> simp

@[simp] theorem State.gateReport_keeps (s : State) (n : Nat) :
    (s.gateReport n).now = s.now ∧ (s.gateReport n).free = s.free ∧ (s.gateReport n).cfg = s.cfg
      ∧ (s.gateReport n).stop = s.stop ∧ (s.gateReport n).claims = s.claims ∧ (s.gateReport n).dir = s.dir
      ∧ (s.gateReport n).cue = s.cue ∧ (s.gateReport n).drive = s.drive ∧ (s.gateReport n).dec = s.dec
      ∧ (s.gateReport n).laneA = s.laneA ∧ (s.gateReport n).laneB = s.laneB ∧ (s.gateReport n).merger = s.merger
      ∧ (s.gateReport n).counters = s.counters ∧ (s.gateReport n).pending = s.pending := by
  simp only [State.gateReport]
  (repeat' split) <;> simp

@[simp] theorem State.handOnReport_keeps (s : State) (n : Nat) (r : StatusReport) :
    (s.handOnReport n r).now = s.now ∧ (s.handOnReport n r).free = s.free ∧ (s.handOnReport n r).cfg = s.cfg ∧ (s.handOnReport n r).claims = s.claims
      ∧ (s.handOnReport n r).dir = s.dir ∧ (s.handOnReport n r).dec = s.dec ∧ (s.handOnReport n r).laneA = s.laneA
      ∧ (s.handOnReport n r).laneB = s.laneB ∧ (s.handOnReport n r).merger = s.merger
      ∧ (s.handOnReport n r).pending = s.pending := by
  simp only [State.handOnReport]
  (repeat' split) <;> simp

@[simp] theorem State.cueIgnored_keeps (s : State) :
    (s.cueIgnored).now = s.now ∧ (s.cueIgnored).free = s.free ∧ (s.cueIgnored).cfg = s.cfg
      ∧ (s.cueIgnored).stop = s.stop ∧ (s.cueIgnored).claims = s.claims ∧ (s.cueIgnored).dir = s.dir
      ∧ (s.cueIgnored).cue = s.cue ∧ (s.cueIgnored).exe = s.exe ∧ (s.cueIgnored).drive = s.drive
      ∧ (s.cueIgnored).dec = s.dec ∧ (s.cueIgnored).tx = s.tx ∧ (s.cueIgnored).laneA = s.laneA
      ∧ (s.cueIgnored).laneB = s.laneB ∧ (s.cueIgnored).merger = s.merger ∧ (s.cueIgnored).port = s.port
      ∧ (s.cueIgnored).pending = s.pending := by
  simp [State.cueIgnored]

/-- What the tests of R66 can come to: nothing, a refusal with the frame's cue number, or the kind's own rule. -/
theorem State.admitCue_cases (s : State) (k : Kind) (via : Arrival) (n rank : Nat) (sel : Selector) (cue : Nat)
    (taken : State → State) :
    s.admitCue k via n rank sel cue taken = s ∨ (∃ code, s.admitCue k via n rank sel cue taken = s.refuse code (some cue))
      ∨ s.admitCue k via n rank sel cue taken = taken s := by
  unfold State.admitCue
  (repeat' split) <;> first | exact .inl rfl | exact .inr (.inl ⟨_, rfl⟩) | exact .inr (.inr rfl)

@[simp] theorem State.takeLoad_keeps (s : State) (sel : Selector) (cue : Nat) (gs : List CarriedSegment) :
    (s.takeLoad sel cue gs).now = s.now ∧ (s.takeLoad sel cue gs).free = s.free
      ∧ (s.takeLoad sel cue gs).cfg = s.cfg ∧ (s.takeLoad sel cue gs).stop = s.stop
      ∧ (s.takeLoad sel cue gs).claims = s.claims ∧ (s.takeLoad sel cue gs).dir = s.dir
      ∧ (s.takeLoad sel cue gs).exe = s.exe ∧ (s.takeLoad sel cue gs).drive = s.drive
      ∧ (s.takeLoad sel cue gs).tx = s.tx ∧ (s.takeLoad sel cue gs).laneA = s.laneA
      ∧ (s.takeLoad sel cue gs).laneB = s.laneB ∧ (s.takeLoad sel cue gs).merger = s.merger
      ∧ (s.takeLoad sel cue gs).pending = s.pending := by
  simp only [State.takeLoad]
  (repeat' split) <;> simp

@[simp] theorem State.armCue_keeps (s : State) (cue : Nat) :
    (s.armCue cue).now = s.now ∧ (s.armCue cue).free = s.free ∧ (s.armCue cue).cfg = s.cfg
      ∧ (s.armCue cue).stop = s.stop ∧ (s.armCue cue).claims = s.claims ∧ (s.armCue cue).dir = s.dir
      ∧ (s.armCue cue).exe = s.exe ∧ (s.armCue cue).drive = s.drive ∧ (s.armCue cue).dec = s.dec
      ∧ (s.armCue cue).tx = s.tx ∧ (s.armCue cue).laneA = s.laneA ∧ (s.armCue cue).laneB = s.laneB
      ∧ (s.armCue cue).merger = s.merger ∧ (s.armCue cue).counters = s.counters
      ∧ (s.armCue cue).pending = s.pending := by
  simp only [State.armCue]
  (repeat' split) <;> simp

@[simp] theorem State.takeGo_keeps (s : State) (cue : Nat) :
    (s.takeGo cue).now = s.now ∧ (s.takeGo cue).free = s.free ∧ (s.takeGo cue).cfg = s.cfg
      ∧ (s.takeGo cue).stop = s.stop ∧ (s.takeGo cue).claims = s.claims ∧ (s.takeGo cue).dir = s.dir
      ∧ (s.takeGo cue).drive = s.drive ∧ (s.takeGo cue).dec = s.dec ∧ (s.takeGo cue).laneA = s.laneA
      ∧ (s.takeGo cue).laneB = s.laneB ∧ (s.takeGo cue).merger = s.merger ∧ (s.takeGo cue).pending = s.pending := by
  simp only [State.takeGo]
  (repeat' split) <;> simp

@[simp] theorem State.takeResume_keeps (s : State) (cue : Nat) :
    (s.takeResume cue).now = s.now ∧ (s.takeResume cue).free = s.free ∧ (s.takeResume cue).cfg = s.cfg
      ∧ (s.takeResume cue).stop = s.stop ∧ (s.takeResume cue).claims = s.claims ∧ (s.takeResume cue).dir = s.dir
      ∧ (s.takeResume cue).drive = s.drive ∧ (s.takeResume cue).dec = s.dec ∧ (s.takeResume cue).laneA = s.laneA
      ∧ (s.takeResume cue).laneB = s.laneB ∧ (s.takeResume cue).merger = s.merger
      ∧ (s.takeResume cue).pending = s.pending := by
  simp only [State.takeResume]
  (repeat' split) <;> simp

@[simp] theorem State.cancelUnstarted_keeps (s : State) (cue : Nat) :
    (s.cancelUnstarted cue).now = s.now ∧ (s.cancelUnstarted cue).free = s.free
      ∧ (s.cancelUnstarted cue).cfg = s.cfg ∧ (s.cancelUnstarted cue).stop = s.stop
      ∧ (s.cancelUnstarted cue).claims = s.claims ∧ (s.cancelUnstarted cue).dir = s.dir
      ∧ (s.cancelUnstarted cue).drive = s.drive ∧ (s.cancelUnstarted cue).dec = s.dec
      ∧ (s.cancelUnstarted cue).laneA = s.laneA ∧ (s.cancelUnstarted cue).laneB = s.laneB
      ∧ (s.cancelUnstarted cue).merger = s.merger ∧ (s.cancelUnstarted cue).pending = s.pending := by
  simp only [State.cancelUnstarted]
  (repeat' split) <;> simp

@[simp] theorem State.cancelStarted_keeps (s : State) (cue : Nat) :
    (s.cancelStarted cue).now = s.now ∧ (s.cancelStarted cue).free = s.free ∧ (s.cancelStarted cue).cfg = s.cfg ∧ (s.cancelStarted cue).stop = s.stop
      ∧ (s.cancelStarted cue).claims = s.claims ∧ (s.cancelStarted cue).dir = s.dir
      ∧ (s.cancelStarted cue).dec = s.dec ∧ (s.cancelStarted cue).laneA = s.laneA
      ∧ (s.cancelStarted cue).laneB = s.laneB ∧ (s.cancelStarted cue).merger = s.merger
      ∧ (s.cancelStarted cue).pending = s.pending := by
  simp only [State.cancelStarted]
  (repeat' split) <;> simp

@[simp] theorem State.takeCancel_keeps (s : State) (cue : Nat) :
    (s.takeCancel cue).now = s.now ∧ (s.takeCancel cue).free = s.free ∧ (s.takeCancel cue).cfg = s.cfg ∧ (s.takeCancel cue).stop = s.stop
      ∧ (s.takeCancel cue).claims = s.claims ∧ (s.takeCancel cue).dir = s.dir ∧ (s.takeCancel cue).dec = s.dec
      ∧ (s.takeCancel cue).laneA = s.laneA ∧ (s.takeCancel cue).laneB = s.laneB
      ∧ (s.takeCancel cue).merger = s.merger ∧ (s.takeCancel cue).pending = s.pending := by
  simp only [State.takeCancel]
  (repeat' split) <;> simp

@[simp] theorem State.takeSafe_keeps (s : State) (k : Kind) (via : Arrival) (n rank : Nat) (sel : Selector) (cause : SafeCause) :
    (s.takeSafe k via n rank sel cause).now = s.now ∧ (s.takeSafe k via n rank sel cause).free = s.free ∧ (s.takeSafe k via n rank sel cause).cfg = s.cfg
      ∧ (s.takeSafe k via n rank sel cause).claims = s.claims ∧ (s.takeSafe k via n rank sel cause).dir = s.dir
      ∧ (s.takeSafe k via n rank sel cause).laneA = s.laneA ∧ (s.takeSafe k via n rank sel cause).laneB = s.laneB
      ∧ (s.takeSafe k via n rank sel cause).merger = s.merger
      ∧ (s.takeSafe k via n rank sel cause).pending = s.pending := by
  simp only [State.takeSafe]
  (repeat' split) <;> simp

@[simp] theorem State.lostSuspicion_keeps (s : State) (via : Arrival) :
    (s.lostSuspicion via).now = s.now ∧ (s.lostSuspicion via).free = s.free ∧ (s.lostSuspicion via).cfg = s.cfg
      ∧ (s.lostSuspicion via).stop = s.stop ∧ (s.lostSuspicion via).dir = s.dir ∧ (s.lostSuspicion via).cue = s.cue
      ∧ (s.lostSuspicion via).exe = s.exe ∧ (s.lostSuspicion via).drive = s.drive
      ∧ (s.lostSuspicion via).dec = s.dec ∧ (s.lostSuspicion via).laneA = s.laneA
      ∧ (s.lostSuspicion via).laneB = s.laneB ∧ (s.lostSuspicion via).merger = s.merger
      ∧ (s.lostSuspicion via).pending = s.pending := by
  simp only [State.lostSuspicion]
  (repeat' split) <;> simp

@[simp] theorem releaseEcho_keeps (via : Arrival) (s : State) :
    (releaseEcho via s).now = s.now ∧ (releaseEcho via s).free = s.free ∧ (releaseEcho via s).cfg = s.cfg
      ∧ (releaseEcho via s).dir = s.dir
      ∧ (releaseEcho via s).dec = s.dec ∧ (releaseEcho via s).laneA = s.laneA ∧ (releaseEcho via s).laneB = s.laneB
      ∧ (releaseEcho via s).merger = s.merger ∧ (releaseEcho via s).pending = s.pending := by
  unfold releaseEcho
  split <;> simp

@[simp] theorem withdrawEcho_keeps (via : Arrival) (s : State) :
    (withdrawEcho via s).now = s.now ∧ (withdrawEcho via s).free = s.free ∧ (withdrawEcho via s).cfg = s.cfg
      ∧ (withdrawEcho via s).dir = s.dir
      ∧ (withdrawEcho via s).dec = s.dec ∧ (withdrawEcho via s).laneA = s.laneA
      ∧ (withdrawEcho via s).laneB = s.laneB ∧ (withdrawEcho via s).merger = s.merger
      ∧ (withdrawEcho via s).pending = s.pending := by
  unfold withdrawEcho
  split <;> simp

/-- What looking a source up can come to: UNKNOWN SOURCE, a refusal ROLE, or the frame's rule, with the suspicion of a
lost echo behind it. -/
theorem State.withSource_cases (s : State) (via : Arrival) (n : Nat) (cue : Option Nat) (taken : State → State) :
    s.withSource via n cue taken = s.unknownSource ∨ s.withSource via n cue taken = s.refuse .role cue
      ∨ s.withSource via n cue taken = taken s ∨ s.withSource via n cue taken = (taken s).lostSuspicion via := by
  unfold State.withSource
  (repeat' split) <;> simp

@[simp] theorem State.takeAnnounce_keeps (s : State) (via : Arrival) (n : Nat) (r : DirRecord) (cs : List ClaimRecord) :
    (s.takeAnnounce via n r cs).now = s.now ∧ (s.takeAnnounce via n r cs).free = s.free ∧ (s.takeAnnounce via n r cs).cfg = s.cfg
      ∧ (s.takeAnnounce via n r cs).laneA = s.laneA ∧ (s.takeAnnounce via n r cs).laneB = s.laneB
      ∧ (s.takeAnnounce via n r cs).merger = s.merger ∧ (s.takeAnnounce via n r cs).pending = s.pending := by
  simp only [State.takeAnnounce]
  (repeat' split) <;> simp

@[simp] theorem State.takeRequest_keeps (s : State) (via : Arrival) (n : Nat) :
    (s.takeRequest via n).now = s.now ∧ (s.takeRequest via n).free = s.free ∧ (s.takeRequest via n).cfg = s.cfg
      ∧ (s.takeRequest via n).stop = s.stop ∧ (s.takeRequest via n).dir = s.dir ∧ (s.takeRequest via n).cue = s.cue
      ∧ (s.takeRequest via n).exe = s.exe ∧ (s.takeRequest via n).drive = s.drive
      ∧ (s.takeRequest via n).dec = s.dec ∧ (s.takeRequest via n).laneA = s.laneA
      ∧ (s.takeRequest via n).laneB = s.laneB ∧ (s.takeRequest via n).merger = s.merger
      ∧ (s.takeRequest via n).pending = s.pending := by
  simp only [State.takeRequest]
  (repeat' split) <;> simp

@[simp] theorem State.unknownReport_keeps (s : State) :
    (s.unknownReport).now = s.now ∧ (s.unknownReport).free = s.free ∧ (s.unknownReport).cfg = s.cfg
      ∧ (s.unknownReport).stop = s.stop ∧ (s.unknownReport).dir = s.dir ∧ (s.unknownReport).cue = s.cue
      ∧ (s.unknownReport).exe = s.exe ∧ (s.unknownReport).drive = s.drive ∧ (s.unknownReport).dec = s.dec
      ∧ (s.unknownReport).laneA = s.laneA ∧ (s.unknownReport).laneB = s.laneB ∧ (s.unknownReport).merger = s.merger
      ∧ (s.unknownReport).pending = s.pending := by
  simp [State.unknownReport]

@[simp] theorem State.takeStatus_keeps (s : State) (via : Arrival) (n : Nat) (r : StatusReport) :
    (s.takeStatus via n r).now = s.now ∧ (s.takeStatus via n r).free = s.free ∧ (s.takeStatus via n r).cfg = s.cfg ∧ (s.takeStatus via n r).dec = s.dec
      ∧ (s.takeStatus via n r).laneA = s.laneA ∧ (s.takeStatus via n r).laneB = s.laneB
      ∧ (s.takeStatus via n r).merger = s.merger ∧ (s.takeStatus via n r).pending = s.pending := by
  simp only [State.takeStatus]
  (repeat' split) <;> simp

@[simp] theorem State.handOn_keeps (s : State) (k : Kind) (via : Arrival) (n rank : Nat) (c : Content) :
    (s.handOn k via n rank c).now = s.now ∧ (s.handOn k via n rank c).free = s.free ∧ (s.handOn k via n rank c).cfg = s.cfg
      ∧ (s.handOn k via n rank c).laneA = s.laneA ∧ (s.handOn k via n rank c).laneB = s.laneB
      ∧ (s.handOn k via n rank c).merger = s.merger ∧ (s.handOn k via n rank c).pending = s.pending := by
  unfold State.handOn State.admitCue State.withSource
  (repeat' split) <;> simp

@[simp] theorem State.malformed_keeps (s : State) (k : Kind) (body : List Byte) :
    (s.malformed k body).now = s.now ∧ (s.malformed k body).free = s.free ∧ (s.malformed k body).cfg = s.cfg
      ∧ (s.malformed k body).stop = s.stop ∧ (s.malformed k body).claims = s.claims
      ∧ (s.malformed k body).dir = s.dir ∧ (s.malformed k body).exe = s.exe ∧ (s.malformed k body).drive = s.drive
      ∧ (s.malformed k body).tx = s.tx ∧ (s.malformed k body).laneA = s.laneA ∧ (s.malformed k body).laneB = s.laneB
      ∧ (s.malformed k body).merger = s.merger ∧ (s.malformed k body).pending = s.pending := by
  simp [State.malformed]

@[simp] theorem State.checkAndHandOn_keeps (s : State) (k : Kind) (via : Arrival) (n rank : Nat) (body : List Byte) :
    (s.checkAndHandOn k via n rank body).now = s.now ∧ (s.checkAndHandOn k via n rank body).free = s.free ∧ (s.checkAndHandOn k via n rank body).cfg = s.cfg
      ∧ (s.checkAndHandOn k via n rank body).laneA = s.laneA ∧ (s.checkAndHandOn k via n rank body).laneB = s.laneB
      ∧ (s.checkAndHandOn k via n rank body).merger = s.merger
      ∧ (s.checkAndHandOn k via n rank body).pending = s.pending := by
  simp only [State.checkAndHandOn]
  (repeat' split) <;> simp

@[simp] theorem State.ownFrame_keeps (s : State) (k : Kind) (rank : Nat) :
    (s.ownFrame k rank).now = s.now ∧ (s.ownFrame k rank).free = s.free ∧ (s.ownFrame k rank).cfg = s.cfg ∧ (s.ownFrame k rank).laneA = s.laneA
      ∧ (s.ownFrame k rank).laneB = s.laneB ∧ (s.ownFrame k rank).merger = s.merger
      ∧ (s.ownFrame k rank).pending = s.pending := by
  simp only [State.ownFrame]
  (repeat' split) <;> simp

@[simp] theorem State.misfiled_keeps (s : State) :
    (s.misfiled).now = s.now
      ∧ (s.misfiled).free = s.free
      ∧ (s.misfiled).cfg = s.cfg
      ∧ (s.misfiled).stop = s.stop
      ∧ (s.misfiled).claims = s.claims
      ∧ (s.misfiled).dir = s.dir
      ∧ (s.misfiled).exe = s.exe
      ∧ (s.misfiled).drive = s.drive
      ∧ (s.misfiled).tx = s.tx
      ∧ (s.misfiled).laneA = s.laneA
      ∧ (s.misfiled).laneB = s.laneB
      ∧ (s.misfiled).merger = s.merger
      ∧ (s.misfiled).pending = s.pending
      ∧ (s.misfiled).cue = s.cue := by
  simp only [State.misfiled]
  split
  · simp; rfl
  · simp

@[simp] theorem State.discardFrom_keeps (s : State) (inbox : List (Option AcceptedFrame)) :
    (s.discardFrom inbox).now = s.now
      ∧ (s.discardFrom inbox).free = s.free
      ∧ (s.discardFrom inbox).cfg = s.cfg
      ∧ (s.discardFrom inbox).stop = s.stop
      ∧ (s.discardFrom inbox).claims = s.claims
      ∧ (s.discardFrom inbox).dir = s.dir
      ∧ (s.discardFrom inbox).cue = s.cue
      ∧ (s.discardFrom inbox).exe = s.exe
      ∧ (s.discardFrom inbox).drive = s.drive
      ∧ (s.discardFrom inbox).tx = s.tx
      ∧ (s.discardFrom inbox).laneA = s.laneA
      ∧ (s.discardFrom inbox).laneB = s.laneB
      ∧ (s.discardFrom inbox).merger = s.merger
      ∧ (s.discardFrom inbox).pending = s.pending := by
  induction inbox generalizing s with
  | nil => simp [State.discardFrom]
  | cons f rest ih =>
    cases f with
    | none => simp [State.discardFrom, ih]
    | some f => simp [State.discardFrom]

@[simp] theorem State.discardMisfiled_keeps (s : State) :
    (s.discardMisfiled).now = s.now
      ∧ (s.discardMisfiled).free = s.free
      ∧ (s.discardMisfiled).cfg = s.cfg
      ∧ (s.discardMisfiled).stop = s.stop
      ∧ (s.discardMisfiled).claims = s.claims
      ∧ (s.discardMisfiled).dir = s.dir
      ∧ (s.discardMisfiled).cue = s.cue
      ∧ (s.discardMisfiled).exe = s.exe
      ∧ (s.discardMisfiled).drive = s.drive
      ∧ (s.discardMisfiled).tx = s.tx
      ∧ (s.discardMisfiled).laneA = s.laneA
      ∧ (s.discardMisfiled).laneB = s.laneB
      ∧ (s.discardMisfiled).merger = s.merger
      ∧ (s.discardMisfiled).pending = s.pending := by
  simp [State.discardMisfiled]

/-- With no misfiled frame ahead, nothing is discarded. -/
theorem State.discardMisfiled_of_filed (s : State) (h : s.misfiledNext = false) : s.discardMisfiled = s := by
  simp only [State.misfiledNext, State.discardMisfiled] at *
  generalize hi : s.dec.inbox = inbox at *
  match inbox with
  | [] | some _ :: _ => simp [State.discardFrom, ← hi]
  | none :: _ => simp at h

/-- No misfiled frame is left ahead. -/
theorem State.discardFrom_filed (s : State) (inbox : List (Option AcceptedFrame)) :
    (s.discardFrom inbox).misfiledNext = false := by
  induction inbox generalizing s with
  | nil => rfl
  | cons f rest ih =>
    cases f with
    | none => exact ih s.misfiled
    | some f => rfl

theorem State.discardMisfiled_filed (s : State) : s.discardMisfiled.misfiledNext = false := s.discardFrom_filed _

@[simp] theorem State.queueAccepted_keeps (s : State) (f : Option AcceptedFrame) :
    (s.queueAccepted f).now = s.now
      ∧ (s.queueAccepted f).free = s.free
      ∧ (s.queueAccepted f).cfg = s.cfg
      ∧ (s.queueAccepted f).stop = s.stop
      ∧ (s.queueAccepted f).claims = s.claims
      ∧ (s.queueAccepted f).dir = s.dir
      ∧ (s.queueAccepted f).cue = s.cue
      ∧ (s.queueAccepted f).exe = s.exe
      ∧ (s.queueAccepted f).drive = s.drive
      ∧ (s.queueAccepted f).tx = s.tx
      ∧ (s.queueAccepted f).laneA = s.laneA
      ∧ (s.queueAccepted f).laneB = s.laneB
      ∧ (s.queueAccepted f).merger = s.merger
      ∧ (s.queueAccepted f).port = s.port
      ∧ (s.queueAccepted f).counters = s.counters
      ∧ (s.queueAccepted f).pending = s.pending := by
  simp [State.queueAccepted]

@[simp] theorem State.takenFromInbox_keeps (s : State) (f : AcceptedFrame) :
    (s.takenFromInbox f).now = s.now ∧ (s.takenFromInbox f).free = s.free ∧ (s.takenFromInbox f).cfg = s.cfg
      ∧ (s.takenFromInbox f).stop = s.stop ∧ (s.takenFromInbox f).claims = s.claims
      ∧ (s.takenFromInbox f).dir = s.dir ∧ (s.takenFromInbox f).cue = s.cue ∧ (s.takenFromInbox f).exe = s.exe
      ∧ (s.takenFromInbox f).drive = s.drive ∧ (s.takenFromInbox f).tx = s.tx ∧ (s.takenFromInbox f).laneA = s.laneA
      ∧ (s.takenFromInbox f).laneB = s.laneB ∧ (s.takenFromInbox f).merger = s.merger
      ∧ (s.takenFromInbox f).port = s.port ∧ (s.takenFromInbox f).counters = s.counters
      ∧ (s.takenFromInbox f).pending = s.pending := by
  simp only [State.takenFromInbox]
  (repeat' split) <;> simp

@[simp] theorem State.takeFrame_keeps (s : State) (k : Kind) (source : BitVec 7) (rank : BitVec 2) (body : List Byte) :
    (s.takeFrame k source rank body).now = s.now ∧ (s.takeFrame k source rank body).free = s.free ∧ (s.takeFrame k source rank body).cfg = s.cfg
      ∧ (s.takeFrame k source rank body).laneA = s.laneA ∧ (s.takeFrame k source rank body).laneB = s.laneB
      ∧ (s.takeFrame k source rank body).merger = s.merger ∧ (s.takeFrame k source rank body).pending = s.pending := by
  simp only [State.takeFrame]
  (repeat' split) <;> simp

@[simp] theorem State.acceptFrame_keeps (s : State) (h : Header) (body : List Byte) :
    (s.acceptFrame h body).now = s.now ∧ (s.acceptFrame h body).free = s.free
      ∧ (s.acceptFrame h body).cfg = s.cfg ∧ (s.acceptFrame h body).stop = s.stop
      ∧ (s.acceptFrame h body).claims = s.claims ∧ (s.acceptFrame h body).dir = s.dir
      ∧ (s.acceptFrame h body).exe = s.exe ∧ (s.acceptFrame h body).drive = s.drive
      ∧ (s.acceptFrame h body).tx = s.tx ∧ (s.acceptFrame h body).laneA = s.laneA
      ∧ (s.acceptFrame h body).laneB = s.laneB ∧ (s.acceptFrame h body).merger = s.merger
      ∧ (s.acceptFrame h body).pending = s.pending := by
  simp only [State.acceptFrame]
  (repeat' split) <;> simp

@[simp] theorem State.loseEcho_keeps (s : State) (c : FrameClass) :
    (s.loseEcho c).now = s.now ∧ (s.loseEcho c).free = s.free ∧ (s.loseEcho c).cfg = s.cfg ∧ (s.loseEcho c).laneA = s.laneA
      ∧ (s.loseEcho c).laneB = s.laneB ∧ (s.loseEcho c).merger = s.merger ∧ (s.loseEcho c).pending = s.pending := by
  simp only [State.loseEcho]
  (repeat' split) <;> simp

@[simp] theorem State.setHealth_keeps (s : State) (l : Lane) (h : Health) :
    (s.setHealth l h).now = s.now ∧ (s.setHealth l h).free = s.free ∧ (s.setHealth l h).cfg = s.cfg
      ∧ (s.setHealth l h).stop = s.stop ∧ (s.setHealth l h).claims = s.claims ∧ (s.setHealth l h).dir = s.dir
      ∧ (s.setHealth l h).cue = s.cue ∧ (s.setHealth l h).exe = s.exe ∧ (s.setHealth l h).drive = s.drive
      ∧ (s.setHealth l h).dec = s.dec ∧ (s.setHealth l h).tx = s.tx ∧ (s.setHealth l h).merger = s.merger
      ∧ (s.setHealth l h).counters = s.counters ∧ (s.setHealth l h).pending = s.pending := by
  simp [State.setHealth]

@[simp] theorem State.closeGood_keeps (s : State) (l : Lane) (clean otherClean : Bool) :
    (s.closeGood l clean otherClean).now = s.now ∧ (s.closeGood l clean otherClean).free = s.free
      ∧ (s.closeGood l clean otherClean).cfg = s.cfg ∧ (s.closeGood l clean otherClean).stop = s.stop
      ∧ (s.closeGood l clean otherClean).claims = s.claims ∧ (s.closeGood l clean otherClean).dir = s.dir
      ∧ (s.closeGood l clean otherClean).cue = s.cue ∧ (s.closeGood l clean otherClean).exe = s.exe
      ∧ (s.closeGood l clean otherClean).drive = s.drive ∧ (s.closeGood l clean otherClean).dec = s.dec
      ∧ (s.closeGood l clean otherClean).tx = s.tx ∧ (s.closeGood l clean otherClean).merger = s.merger
      ∧ (s.closeGood l clean otherClean).counters = s.counters
      ∧ (s.closeGood l clean otherClean).pending = s.pending := by
  simp only [State.closeGood]
  (repeat' split) <;> simp

@[simp] theorem State.closeDegraded_keeps (s : State) (l : Lane) (p : LanePart) (accepted : Option Copy) :
    (s.closeDegraded l p accepted).now = s.now ∧ (s.closeDegraded l p accepted).free = s.free
      ∧ (s.closeDegraded l p accepted).cfg = s.cfg ∧ (s.closeDegraded l p accepted).stop = s.stop
      ∧ (s.closeDegraded l p accepted).claims = s.claims ∧ (s.closeDegraded l p accepted).dir = s.dir
      ∧ (s.closeDegraded l p accepted).cue = s.cue ∧ (s.closeDegraded l p accepted).exe = s.exe
      ∧ (s.closeDegraded l p accepted).drive = s.drive ∧ (s.closeDegraded l p accepted).dec = s.dec
      ∧ (s.closeDegraded l p accepted).tx = s.tx ∧ (s.closeDegraded l p accepted).merger = s.merger
      ∧ (s.closeDegraded l p accepted).counters = s.counters ∧ (s.closeDegraded l p accepted).pending = s.pending := by
  simp only [State.closeDegraded]
  (repeat' split) <;> simp

@[simp] theorem State.closeLane_keeps (s : State) (a : Attempt) (accepted : Option Copy) (l : Lane) :
    (s.closeLane a accepted l).now = s.now ∧ (s.closeLane a accepted l).free = s.free
      ∧ (s.closeLane a accepted l).cfg = s.cfg ∧ (s.closeLane a accepted l).stop = s.stop
      ∧ (s.closeLane a accepted l).claims = s.claims ∧ (s.closeLane a accepted l).dir = s.dir
      ∧ (s.closeLane a accepted l).cue = s.cue ∧ (s.closeLane a accepted l).exe = s.exe
      ∧ (s.closeLane a accepted l).drive = s.drive ∧ (s.closeLane a accepted l).dec = s.dec
      ∧ (s.closeLane a accepted l).tx = s.tx ∧ (s.closeLane a accepted l).merger = s.merger
      ∧ (s.closeLane a accepted l).counters = s.counters ∧ (s.closeLane a accepted l).pending = s.pending := by
  simp only [State.closeLane]
  (repeat' split) <;> simp

@[simp] theorem State.closeAttempt_keeps (s : State) (a : Attempt) (accepted : Option Copy) :
    (s.closeAttempt a accepted).now = s.now ∧ (s.closeAttempt a accepted).free = s.free
      ∧ (s.closeAttempt a accepted).cfg = s.cfg ∧ (s.closeAttempt a accepted).stop = s.stop
      ∧ (s.closeAttempt a accepted).claims = s.claims ∧ (s.closeAttempt a accepted).dir = s.dir
      ∧ (s.closeAttempt a accepted).cue = s.cue ∧ (s.closeAttempt a accepted).exe = s.exe
      ∧ (s.closeAttempt a accepted).drive = s.drive ∧ (s.closeAttempt a accepted).dec = s.dec
      ∧ (s.closeAttempt a accepted).tx = s.tx ∧ (s.closeAttempt a accepted).merger = s.merger
      ∧ (s.closeAttempt a accepted).counters = s.counters ∧ (s.closeAttempt a accepted).pending = s.pending := by
  simp [State.closeAttempt]

@[simp] theorem State.closeTail_keeps (s : State) :
    (s.closeTail).now = s.now ∧ (s.closeTail).free = s.free ∧ (s.closeTail).cfg = s.cfg
      ∧ (s.closeTail).stop = s.stop ∧ (s.closeTail).claims = s.claims ∧ (s.closeTail).dir = s.dir
      ∧ (s.closeTail).cue = s.cue ∧ (s.closeTail).exe = s.exe ∧ (s.closeTail).drive = s.drive
      ∧ (s.closeTail).dec = s.dec ∧ (s.closeTail).tx = s.tx ∧ (s.closeTail).counters = s.counters
      ∧ (s.closeTail).pending = s.pending := by
  simp only [State.closeTail]
  (repeat' split) <;> simp

@[simp] theorem State.endDecided_keeps (s : State) (a : Attempt) (accepted : Option Copy) :
    (s.endDecided a accepted).now = s.now ∧ (s.endDecided a accepted).free = s.free
      ∧ (s.endDecided a accepted).cfg = s.cfg ∧ (s.endDecided a accepted).stop = s.stop
      ∧ (s.endDecided a accepted).claims = s.claims ∧ (s.endDecided a accepted).dir = s.dir
      ∧ (s.endDecided a accepted).cue = s.cue ∧ (s.endDecided a accepted).exe = s.exe
      ∧ (s.endDecided a accepted).drive = s.drive ∧ (s.endDecided a accepted).dec = s.dec
      ∧ (s.endDecided a accepted).tx = s.tx ∧ (s.endDecided a accepted).counters = s.counters
      ∧ (s.endDecided a accepted).pending = s.pending := by
  simp only [State.endDecided]
  (repeat' split) <;> simp

@[simp] theorem State.recordDecision_keeps (s : State) (a : Attempt) (d : Decision) :
    (s.recordDecision a d).now = s.now ∧ (s.recordDecision a d).free = s.free
      ∧ (s.recordDecision a d).cfg = s.cfg ∧ (s.recordDecision a d).stop = s.stop
      ∧ (s.recordDecision a d).claims = s.claims ∧ (s.recordDecision a d).dir = s.dir
      ∧ (s.recordDecision a d).cue = s.cue ∧ (s.recordDecision a d).exe = s.exe
      ∧ (s.recordDecision a d).drive = s.drive ∧ (s.recordDecision a d).dec = s.dec
      ∧ (s.recordDecision a d).tx = s.tx ∧ (s.recordDecision a d).pending = s.pending := by
  simp only [State.recordDecision]
  (repeat' split) <;> simp

@[simp] theorem State.decideAttempt_keeps (s : State) (a : Attempt) :
    (s.decideAttempt a).now = s.now ∧ (s.decideAttempt a).free = s.free ∧ (s.decideAttempt a).cfg = s.cfg
      ∧ (s.decideAttempt a).stop = s.stop ∧ (s.decideAttempt a).dir = s.dir ∧ (s.decideAttempt a).exe = s.exe
      ∧ (s.decideAttempt a).drive = s.drive ∧ (s.decideAttempt a).pending = s.pending := by
  simp only [State.decideAttempt]
  (repeat' split) <;> simp

@[simp] theorem State.openNext_keeps (s : State) :
    (s.openNext).now = s.now ∧ (s.openNext).free = s.free ∧ (s.openNext).cfg = s.cfg
      ∧ (s.openNext).stop = s.stop ∧ (s.openNext).claims = s.claims ∧ (s.openNext).dir = s.dir
      ∧ (s.openNext).cue = s.cue ∧ (s.openNext).exe = s.exe ∧ (s.openNext).drive = s.drive
      ∧ (s.openNext).dec = s.dec ∧ (s.openNext).tx = s.tx ∧ (s.openNext).laneA = s.laneA
      ∧ (s.openNext).laneB = s.laneB ∧ (s.openNext).port = s.port ∧ (s.openNext).counters = s.counters
      ∧ (s.openNext).pending = s.pending := by
  simp only [State.openNext]
  (repeat' split) <;> simp

@[simp] theorem State.advanceAttempt_keeps (s : State) :
    (s.advanceAttempt).now = s.now ∧ (s.advanceAttempt).free = s.free ∧ (s.advanceAttempt).cfg = s.cfg
      ∧ (s.advanceAttempt).stop = s.stop ∧ (s.advanceAttempt).dir = s.dir ∧ (s.advanceAttempt).exe = s.exe
      ∧ (s.advanceAttempt).drive = s.drive ∧ (s.advanceAttempt).pending = s.pending := by
  simp only [State.advanceAttempt]
  (repeat' split) <;> simp

@[simp] theorem State.settleMerger_keeps (s : State) :
    (s.settleMerger).now = s.now ∧ (s.settleMerger).free = s.free ∧ (s.settleMerger).cfg = s.cfg
      ∧ (s.settleMerger).stop = s.stop ∧ (s.settleMerger).dir = s.dir ∧ (s.settleMerger).exe = s.exe
      ∧ (s.settleMerger).drive = s.drive ∧ (s.settleMerger).pending = s.pending := by
  simp [State.settleMerger]

@[simp] theorem State.leadAgain_keeps (s : State) (a : Attempt) (l : Lane) :
    (s.leadAgain a l).now = s.now ∧ (s.leadAgain a l).free = s.free ∧ (s.leadAgain a l).cfg = s.cfg
      ∧ (s.leadAgain a l).stop = s.stop ∧ (s.leadAgain a l).claims = s.claims ∧ (s.leadAgain a l).dir = s.dir
      ∧ (s.leadAgain a l).cue = s.cue ∧ (s.leadAgain a l).exe = s.exe ∧ (s.leadAgain a l).drive = s.drive
      ∧ (s.leadAgain a l).dec = s.dec ∧ (s.leadAgain a l).tx = s.tx ∧ (s.leadAgain a l).counters = s.counters
      ∧ (s.leadAgain a l).pending = s.pending := by
  simp only [State.leadAgain]
  (repeat' split) <;> simp

@[simp] theorem State.mergerLead_keeps (s : State) (l : Lane) :
    (s.mergerLead l).now = s.now ∧ (s.mergerLead l).free = s.free ∧ (s.mergerLead l).cfg = s.cfg
      ∧ (s.mergerLead l).stop = s.stop ∧ (s.mergerLead l).claims = s.claims ∧ (s.mergerLead l).dir = s.dir
      ∧ (s.mergerLead l).cue = s.cue ∧ (s.mergerLead l).exe = s.exe ∧ (s.mergerLead l).drive = s.drive
      ∧ (s.mergerLead l).dec = s.dec ∧ (s.mergerLead l).tx = s.tx ∧ (s.mergerLead l).counters = s.counters
      ∧ (s.mergerLead l).pending = s.pending := by
  simp only [State.mergerLead]
  (repeat' split) <;> simp

@[simp] theorem State.tailEnds_keeps (s : State) (t : Tail) (l : Lane) (c : Option Copy) :
    (s.tailEnds t l c).now = s.now ∧ (s.tailEnds t l c).free = s.free ∧ (s.tailEnds t l c).cfg = s.cfg
      ∧ (s.tailEnds t l c).stop = s.stop ∧ (s.tailEnds t l c).claims = s.claims ∧ (s.tailEnds t l c).dir = s.dir
      ∧ (s.tailEnds t l c).cue = s.cue ∧ (s.tailEnds t l c).exe = s.exe ∧ (s.tailEnds t l c).drive = s.drive
      ∧ (s.tailEnds t l c).dec = s.dec ∧ (s.tailEnds t l c).tx = s.tx ∧ (s.tailEnds t l c).counters = s.counters
      ∧ (s.tailEnds t l c).pending = s.pending := by
  simp only [State.tailEnds]
  (repeat' split) <;> simp

@[simp] theorem State.mergerEnd_keeps (s : State) (l : Lane) (c : Option Copy) :
    (s.mergerEnd l c).now = s.now ∧ (s.mergerEnd l c).free = s.free ∧ (s.mergerEnd l c).cfg = s.cfg
      ∧ (s.mergerEnd l c).stop = s.stop ∧ (s.mergerEnd l c).dir = s.dir ∧ (s.mergerEnd l c).exe = s.exe
      ∧ (s.mergerEnd l c).drive = s.drive ∧ (s.mergerEnd l c).pending = s.pending := by
  simp only [State.mergerEnd]
  (repeat' split) <;> simp

@[simp] theorem State.recordKinds_keeps (s : State) (l : Lane) (kinds : List LaneKind) :
    (s.recordKinds l kinds).now = s.now ∧ (s.recordKinds l kinds).free = s.free
      ∧ (s.recordKinds l kinds).cfg = s.cfg ∧ (s.recordKinds l kinds).stop = s.stop
      ∧ (s.recordKinds l kinds).claims = s.claims ∧ (s.recordKinds l kinds).dir = s.dir
      ∧ (s.recordKinds l kinds).cue = s.cue ∧ (s.recordKinds l kinds).exe = s.exe
      ∧ (s.recordKinds l kinds).drive = s.drive ∧ (s.recordKinds l kinds).dec = s.dec
      ∧ (s.recordKinds l kinds).tx = s.tx ∧ (s.recordKinds l kinds).merger = s.merger
      ∧ (s.recordKinds l kinds).counters = s.counters ∧ (s.recordKinds l kinds).pending = s.pending := by
  simp [State.recordKinds]

@[simp] theorem State.endReception_keeps (s : State) (l : Lane) (r : Reception) (after : RecvState) :
    (s.endReception l r after).now = s.now ∧ (s.endReception l r after).free = s.free
      ∧ (s.endReception l r after).cfg = s.cfg ∧ (s.endReception l r after).stop = s.stop
      ∧ (s.endReception l r after).dir = s.dir ∧ (s.endReception l r after).exe = s.exe
      ∧ (s.endReception l r after).drive = s.drive ∧ (s.endReception l r after).pending = s.pending := by
  simp only [State.endReception]
  (repeat' split) <;> simp

@[simp] theorem State.turnOff_keeps (s : State) (l : Lane) :
    (s.turnOff l).now = s.now ∧ (s.turnOff l).free = s.free ∧ (s.turnOff l).cfg = s.cfg
      ∧ (s.turnOff l).stop = s.stop ∧ (s.turnOff l).dir = s.dir ∧ (s.turnOff l).exe = s.exe
      ∧ (s.turnOff l).drive = s.drive ∧ (s.turnOff l).pending = s.pending := by
  simp only [State.turnOff]
  (repeat' split) <;> simp

@[simp] theorem State.applyLaneMode_keeps (s : State) :
    (s.applyLaneMode).now = s.now ∧ (s.applyLaneMode).free = s.free ∧ (s.applyLaneMode).cfg = s.cfg
      ∧ (s.applyLaneMode).stop = s.stop ∧ (s.applyLaneMode).dir = s.dir ∧ (s.applyLaneMode).exe = s.exe
      ∧ (s.applyLaneMode).drive = s.drive ∧ (s.applyLaneMode).pending = s.pending := by
  simp only [State.applyLaneMode]
  (repeat' split) <;> simp

@[simp] theorem State.enterInert_keeps (s : State) :
    (s.enterInert).now = s.now ∧ (s.enterInert).free = s.free ∧ (s.enterInert).cfg = s.cfg
      ∧ (s.enterInert).claims = s.claims ∧ (s.enterInert).dir = s.dir ∧ (s.enterInert).cue = s.cue
      ∧ (s.enterInert).exe = s.exe ∧ (s.enterInert).drive = s.drive ∧ (s.enterInert).dec = s.dec
      ∧ (s.enterInert).tx = s.tx ∧ (s.enterInert).laneA = s.laneA ∧ (s.enterInert).laneB = s.laneB
      ∧ (s.enterInert).merger = s.merger ∧ (s.enterInert).counters = s.counters
      ∧ (s.enterInert).pending = s.pending := by
  simp [State.enterInert]

@[simp] theorem State.enterJoining_keeps (s : State) :
    (s.enterJoining).now = s.now ∧ (s.enterJoining).free = s.free ∧ (s.enterJoining).cfg = s.cfg
      ∧ (s.enterJoining).dir = s.dir ∧ (s.enterJoining).pending = s.pending := by
  simp only [State.enterJoining]
  (repeat' split) <;> simp

@[simp] theorem State.endConfigWindow_keeps (s : State) :
    (s.endConfigWindow).now = s.now ∧ (s.endConfigWindow).free = s.free ∧ (s.endConfigWindow).dir = s.dir
      ∧ (s.endConfigWindow).pending = s.pending := by
  simp only [State.endConfigWindow]
  (repeat' split) <;> simp

@[simp] theorem State.markFullColumn_keeps (s : State) :
    (s.markFullColumn).now = s.now ∧ (s.markFullColumn).free = s.free ∧ (s.markFullColumn).cfg = s.cfg
      ∧ (s.markFullColumn).claims = s.claims ∧ (s.markFullColumn).dir = s.dir ∧ (s.markFullColumn).cue = s.cue
      ∧ (s.markFullColumn).exe = s.exe ∧ (s.markFullColumn).drive = s.drive ∧ (s.markFullColumn).dec = s.dec
      ∧ (s.markFullColumn).tx = s.tx ∧ (s.markFullColumn).laneA = s.laneA ∧ (s.markFullColumn).laneB = s.laneB
      ∧ (s.markFullColumn).merger = s.merger ∧ (s.markFullColumn).port = s.port
      ∧ (s.markFullColumn).counters = s.counters ∧ (s.markFullColumn).pending = s.pending := by
  simp [State.markFullColumn]

@[simp] theorem State.narrowColumn_keeps (s : State) :
    (s.narrowColumn).now = s.now ∧ (s.narrowColumn).free = s.free ∧ (s.narrowColumn).cfg = s.cfg
      ∧ (s.narrowColumn).claims = s.claims ∧ (s.narrowColumn).dir = s.dir ∧ (s.narrowColumn).cue = s.cue
      ∧ (s.narrowColumn).exe = s.exe ∧ (s.narrowColumn).drive = s.drive ∧ (s.narrowColumn).dec = s.dec
      ∧ (s.narrowColumn).laneA = s.laneA ∧ (s.narrowColumn).laneB = s.laneB ∧ (s.narrowColumn).merger = s.merger
      ∧ (s.narrowColumn).counters = s.counters ∧ (s.narrowColumn).pending = s.pending := by
  simp only [State.narrowColumn]
  (repeat' split) <;> simp

@[simp] theorem State.selectDirectory_keeps (s : State) (index : Byte) :
    (s.selectDirectory index).now = s.now ∧ (s.selectDirectory index).free = s.free
      ∧ (s.selectDirectory index).cfg = s.cfg ∧ (s.selectDirectory index).stop = s.stop
      ∧ (s.selectDirectory index).claims = s.claims ∧ (s.selectDirectory index).dir = s.dir
      ∧ (s.selectDirectory index).cue = s.cue ∧ (s.selectDirectory index).exe = s.exe
      ∧ (s.selectDirectory index).drive = s.drive ∧ (s.selectDirectory index).dec = s.dec
      ∧ (s.selectDirectory index).tx = s.tx ∧ (s.selectDirectory index).laneA = s.laneA
      ∧ (s.selectDirectory index).laneB = s.laneB ∧ (s.selectDirectory index).merger = s.merger
      ∧ (s.selectDirectory index).counters = s.counters ∧ (s.selectDirectory index).pending = s.pending := by
  simp only [State.selectDirectory]
  (repeat' split) <;> simp

@[simp] theorem State.selectClaims_keeps (s : State) (byOwner : Bool) (value : Byte) :
    (s.selectClaims byOwner value).now = s.now ∧ (s.selectClaims byOwner value).free = s.free
      ∧ (s.selectClaims byOwner value).cfg = s.cfg ∧ (s.selectClaims byOwner value).stop = s.stop
      ∧ (s.selectClaims byOwner value).claims = s.claims ∧ (s.selectClaims byOwner value).dir = s.dir
      ∧ (s.selectClaims byOwner value).cue = s.cue ∧ (s.selectClaims byOwner value).exe = s.exe
      ∧ (s.selectClaims byOwner value).drive = s.drive ∧ (s.selectClaims byOwner value).dec = s.dec
      ∧ (s.selectClaims byOwner value).tx = s.tx ∧ (s.selectClaims byOwner value).laneA = s.laneA
      ∧ (s.selectClaims byOwner value).laneB = s.laneB ∧ (s.selectClaims byOwner value).merger = s.merger
      ∧ (s.selectClaims byOwner value).counters = s.counters ∧ (s.selectClaims byOwner value).pending = s.pending := by
  simp only [State.selectClaims]
  (repeat' split) <;> simp

@[simp] theorem State.selectQueue_keeps (s : State) (position : Byte) :
    (s.selectQueue position).now = s.now ∧ (s.selectQueue position).free = s.free
      ∧ (s.selectQueue position).cfg = s.cfg ∧ (s.selectQueue position).stop = s.stop
      ∧ (s.selectQueue position).claims = s.claims ∧ (s.selectQueue position).dir = s.dir
      ∧ (s.selectQueue position).cue = s.cue ∧ (s.selectQueue position).exe = s.exe
      ∧ (s.selectQueue position).drive = s.drive ∧ (s.selectQueue position).dec = s.dec
      ∧ (s.selectQueue position).tx = s.tx ∧ (s.selectQueue position).laneA = s.laneA
      ∧ (s.selectQueue position).laneB = s.laneB ∧ (s.selectQueue position).merger = s.merger
      ∧ (s.selectQueue position).counters = s.counters ∧ (s.selectQueue position).pending = s.pending := by
  simp only [State.selectQueue]
  (repeat' split) <;> simp

@[simp] theorem State.selectCounter_keeps (s : State) (number : Byte) :
    (s.selectCounter number).now = s.now ∧ (s.selectCounter number).free = s.free
      ∧ (s.selectCounter number).cfg = s.cfg ∧ (s.selectCounter number).stop = s.stop
      ∧ (s.selectCounter number).claims = s.claims ∧ (s.selectCounter number).dir = s.dir
      ∧ (s.selectCounter number).cue = s.cue ∧ (s.selectCounter number).exe = s.exe
      ∧ (s.selectCounter number).drive = s.drive ∧ (s.selectCounter number).dec = s.dec
      ∧ (s.selectCounter number).tx = s.tx ∧ (s.selectCounter number).laneA = s.laneA
      ∧ (s.selectCounter number).laneB = s.laneB ∧ (s.selectCounter number).merger = s.merger
      ∧ (s.selectCounter number).counters = s.counters ∧ (s.selectCounter number).pending = s.pending := by
  simp [State.selectCounter]

@[simp] theorem State.selectLaneCount_keeps (s : State) (selection : Byte) :
    (s.selectLaneCount selection).now = s.now ∧ (s.selectLaneCount selection).free = s.free
      ∧ (s.selectLaneCount selection).cfg = s.cfg ∧ (s.selectLaneCount selection).stop = s.stop
      ∧ (s.selectLaneCount selection).claims = s.claims ∧ (s.selectLaneCount selection).dir = s.dir
      ∧ (s.selectLaneCount selection).cue = s.cue ∧ (s.selectLaneCount selection).exe = s.exe
      ∧ (s.selectLaneCount selection).drive = s.drive ∧ (s.selectLaneCount selection).dec = s.dec
      ∧ (s.selectLaneCount selection).tx = s.tx ∧ (s.selectLaneCount selection).laneA = s.laneA
      ∧ (s.selectLaneCount selection).laneB = s.laneB ∧ (s.selectLaneCount selection).merger = s.merger
      ∧ (s.selectLaneCount selection).counters = s.counters ∧ (s.selectLaneCount selection).pending = s.pending := by
  simp only [State.selectLaneCount]
  (repeat' split) <;> simp

@[simp] theorem State.submitted_keeps (s : State) (o : SubmitOutcome) :
    (s.submitted o).now = s.now ∧ (s.submitted o).free = s.free ∧ (s.submitted o).cfg = s.cfg
      ∧ (s.submitted o).stop = s.stop ∧ (s.submitted o).claims = s.claims ∧ (s.submitted o).dir = s.dir
      ∧ (s.submitted o).cue = s.cue ∧ (s.submitted o).exe = s.exe ∧ (s.submitted o).drive = s.drive
      ∧ (s.submitted o).dec = s.dec ∧ (s.submitted o).tx = s.tx ∧ (s.submitted o).laneA = s.laneA
      ∧ (s.submitted o).laneB = s.laneB ∧ (s.submitted o).merger = s.merger ∧ (s.submitted o).counters = s.counters
      ∧ (s.submitted o).pending = s.pending := by
  simp [State.submitted]

@[simp] theorem State.submitMailbox_keeps (s : State) :
    (s.submitMailbox).now = s.now ∧ (s.submitMailbox).free = s.free ∧ (s.submitMailbox).cfg = s.cfg
      ∧ (s.submitMailbox).stop = s.stop ∧ (s.submitMailbox).claims = s.claims ∧ (s.submitMailbox).dir = s.dir
      ∧ (s.submitMailbox).cue = s.cue ∧ (s.submitMailbox).exe = s.exe ∧ (s.submitMailbox).drive = s.drive
      ∧ (s.submitMailbox).dec = s.dec ∧ (s.submitMailbox).laneA = s.laneA ∧ (s.submitMailbox).laneB = s.laneB
      ∧ (s.submitMailbox).merger = s.merger ∧ (s.submitMailbox).counters = s.counters
      ∧ (s.submitMailbox).pending = s.pending := by
  simp only [State.submitMailbox]
  (repeat' split) <;> simp

@[simp] theorem State.shiftOut_keeps (s : State) (addr : Byte) :
    (s.shiftOut addr).now = s.now ∧ (s.shiftOut addr).free = s.free ∧ (s.shiftOut addr).cfg = s.cfg
      ∧ (s.shiftOut addr).stop = s.stop ∧ (s.shiftOut addr).claims = s.claims ∧ (s.shiftOut addr).dir = s.dir
      ∧ (s.shiftOut addr).cue = s.cue ∧ (s.shiftOut addr).exe = s.exe ∧ (s.shiftOut addr).drive = s.drive
      ∧ (s.shiftOut addr).dec = s.dec ∧ (s.shiftOut addr).tx = s.tx ∧ (s.shiftOut addr).laneA = s.laneA
      ∧ (s.shiftOut addr).laneB = s.laneB ∧ (s.shiftOut addr).merger = s.merger
      ∧ (s.shiftOut addr).counters = s.counters ∧ (s.shiftOut addr).pending = s.pending := by
  simp only [State.shiftOut]
  (repeat' split) <;> simp

@[simp] theorem State.clearFlags_keeps (s : State) (second : Bool) (v : Byte) :
    (s.clearFlags second v).now = s.now ∧ (s.clearFlags second v).free = s.free
      ∧ (s.clearFlags second v).cfg = s.cfg ∧ (s.clearFlags second v).stop = s.stop
      ∧ (s.clearFlags second v).claims = s.claims ∧ (s.clearFlags second v).dir = s.dir
      ∧ (s.clearFlags second v).cue = s.cue ∧ (s.clearFlags second v).exe = s.exe
      ∧ (s.clearFlags second v).drive = s.drive ∧ (s.clearFlags second v).dec = s.dec
      ∧ (s.clearFlags second v).tx = s.tx ∧ (s.clearFlags second v).laneA = s.laneA
      ∧ (s.clearFlags second v).laneB = s.laneB ∧ (s.clearFlags second v).merger = s.merger
      ∧ (s.clearFlags second v).counters = s.counters ∧ (s.clearFlags second v).pending = s.pending := by
  simp only [State.clearFlags]
  (repeat' split) <;> simp

@[simp] theorem State.clearKinds_keeps (s : State) (l : Lane) (second : Bool) (v : Byte) :
    (s.clearKinds l second v).now = s.now ∧ (s.clearKinds l second v).free = s.free
      ∧ (s.clearKinds l second v).cfg = s.cfg ∧ (s.clearKinds l second v).stop = s.stop
      ∧ (s.clearKinds l second v).claims = s.claims ∧ (s.clearKinds l second v).dir = s.dir
      ∧ (s.clearKinds l second v).cue = s.cue ∧ (s.clearKinds l second v).exe = s.exe
      ∧ (s.clearKinds l second v).drive = s.drive ∧ (s.clearKinds l second v).dec = s.dec
      ∧ (s.clearKinds l second v).tx = s.tx ∧ (s.clearKinds l second v).merger = s.merger
      ∧ (s.clearKinds l second v).port = s.port ∧ (s.clearKinds l second v).counters = s.counters
      ∧ (s.clearKinds l second v).pending = s.pending := by
  simp only [State.clearKinds]
  (repeat' split) <;> simp

@[simp] theorem State.readFlags_keeps (s : State) (addr : Byte) :
    (s.readFlags addr).now = s.now ∧ (s.readFlags addr).free = s.free ∧ (s.readFlags addr).cfg = s.cfg
      ∧ (s.readFlags addr).stop = s.stop ∧ (s.readFlags addr).claims = s.claims ∧ (s.readFlags addr).dir = s.dir
      ∧ (s.readFlags addr).cue = s.cue ∧ (s.readFlags addr).exe = s.exe ∧ (s.readFlags addr).drive = s.drive
      ∧ (s.readFlags addr).dec = s.dec ∧ (s.readFlags addr).tx = s.tx ∧ (s.readFlags addr).laneA = s.laneA
      ∧ (s.readFlags addr).laneB = s.laneB ∧ (s.readFlags addr).merger = s.merger
      ∧ (s.readFlags addr).counters = s.counters ∧ (s.readFlags addr).pending = s.pending := by
  simp only [State.readFlags]
  (repeat' split) <;> simp

@[simp] theorem State.readKinds_keeps (s : State) (addr : Byte) :
    (s.readKinds addr).now = s.now ∧ (s.readKinds addr).free = s.free ∧ (s.readKinds addr).cfg = s.cfg
      ∧ (s.readKinds addr).stop = s.stop ∧ (s.readKinds addr).claims = s.claims ∧ (s.readKinds addr).dir = s.dir
      ∧ (s.readKinds addr).cue = s.cue ∧ (s.readKinds addr).exe = s.exe ∧ (s.readKinds addr).drive = s.drive
      ∧ (s.readKinds addr).dec = s.dec ∧ (s.readKinds addr).tx = s.tx ∧ (s.readKinds addr).merger = s.merger
      ∧ (s.readKinds addr).counters = s.counters ∧ (s.readKinds addr).pending = s.pending := by
  simp only [State.readKinds]
  (repeat' split) <;> simp

@[simp] theorem State.readBody_keeps (s : State) :
    (s.readBody).now = s.now ∧ (s.readBody).cfg = s.cfg ∧ (s.readBody).stop = s.stop
      ∧ (s.readBody).claims = s.claims ∧ (s.readBody).dir = s.dir ∧ (s.readBody).cue = s.cue
      ∧ (s.readBody).exe = s.exe ∧ (s.readBody).drive = s.drive ∧ (s.readBody).dec = s.dec ∧ (s.readBody).tx = s.tx
      ∧ (s.readBody).laneA = s.laneA ∧ (s.readBody).laneB = s.laneB ∧ (s.readBody).merger = s.merger
      ∧ (s.readBody).counters = s.counters ∧ (s.readBody).pending = s.pending := by
  simp [State.readBody]

@[simp] theorem State.readLocation_keeps (s : State) (addr : Byte) :
    (s.readLocation addr).now = s.now ∧ (s.readLocation addr).cfg = s.cfg ∧ (s.readLocation addr).stop = s.stop
      ∧ (s.readLocation addr).claims = s.claims ∧ (s.readLocation addr).dir = s.dir
      ∧ (s.readLocation addr).cue = s.cue ∧ (s.readLocation addr).exe = s.exe
      ∧ (s.readLocation addr).drive = s.drive ∧ (s.readLocation addr).dec = s.dec ∧ (s.readLocation addr).tx = s.tx
      ∧ (s.readLocation addr).merger = s.merger ∧ (s.readLocation addr).counters = s.counters
      ∧ (s.readLocation addr).pending = s.pending := by
  simp only [State.readLocation]
  (repeat' split) <;> simp

@[simp] theorem State.writeRecord_keeps (s : State) (addr v : Byte) :
    (s.writeRecord addr v).now = s.now ∧ (s.writeRecord addr v).free = s.free
      ∧ (s.writeRecord addr v).stop = s.stop ∧ (s.writeRecord addr v).claims = s.claims
      ∧ (s.writeRecord addr v).dir = s.dir ∧ (s.writeRecord addr v).cue = s.cue ∧ (s.writeRecord addr v).exe = s.exe
      ∧ (s.writeRecord addr v).drive = s.drive ∧ (s.writeRecord addr v).dec = s.dec
      ∧ (s.writeRecord addr v).tx = s.tx ∧ (s.writeRecord addr v).laneA = s.laneA
      ∧ (s.writeRecord addr v).laneB = s.laneB ∧ (s.writeRecord addr v).merger = s.merger
      ∧ (s.writeRecord addr v).counters = s.counters ∧ (s.writeRecord addr v).pending = s.pending := by
  simp only [State.writeRecord]
  (repeat' split) <;> simp

@[simp] theorem State.writeReserved_keeps (s : State) :
    (s.writeReserved).now = s.now ∧ (s.writeReserved).free = s.free ∧ (s.writeReserved).cfg = s.cfg
      ∧ (s.writeReserved).stop = s.stop ∧ (s.writeReserved).claims = s.claims ∧ (s.writeReserved).dir = s.dir
      ∧ (s.writeReserved).cue = s.cue ∧ (s.writeReserved).exe = s.exe ∧ (s.writeReserved).drive = s.drive
      ∧ (s.writeReserved).dec = s.dec ∧ (s.writeReserved).tx = s.tx ∧ (s.writeReserved).laneA = s.laneA
      ∧ (s.writeReserved).laneB = s.laneB ∧ (s.writeReserved).merger = s.merger
      ∧ (s.writeReserved).counters = s.counters ∧ (s.writeReserved).pending = s.pending := by
  simp only [State.writeReserved]
  (repeat' split) <;> simp

@[simp] theorem State.writeEnables_keeps (s : State) (addr v : Byte) :
    (s.writeEnables addr v).now = s.now ∧ (s.writeEnables addr v).free = s.free
      ∧ (s.writeEnables addr v).cfg = s.cfg ∧ (s.writeEnables addr v).stop = s.stop
      ∧ (s.writeEnables addr v).claims = s.claims ∧ (s.writeEnables addr v).dir = s.dir
      ∧ (s.writeEnables addr v).cue = s.cue ∧ (s.writeEnables addr v).exe = s.exe
      ∧ (s.writeEnables addr v).drive = s.drive ∧ (s.writeEnables addr v).dec = s.dec
      ∧ (s.writeEnables addr v).tx = s.tx ∧ (s.writeEnables addr v).laneA = s.laneA
      ∧ (s.writeEnables addr v).laneB = s.laneB ∧ (s.writeEnables addr v).merger = s.merger
      ∧ (s.writeEnables addr v).counters = s.counters ∧ (s.writeEnables addr v).pending = s.pending := by
  simp only [State.writeEnables]
  (repeat' split) <;> simp

@[simp] theorem State.parkRequest_keeps (s : State) :
    (s.parkRequest).now = s.now ∧ (s.parkRequest).free = s.free ∧ (s.parkRequest).cfg = s.cfg
      ∧ (s.parkRequest).stop = s.stop ∧ (s.parkRequest).claims = s.claims ∧ (s.parkRequest).dir = s.dir
      ∧ (s.parkRequest).exe = s.exe ∧ (s.parkRequest).drive = s.drive ∧ (s.parkRequest).dec = s.dec
      ∧ (s.parkRequest).tx = s.tx ∧ (s.parkRequest).laneA = s.laneA ∧ (s.parkRequest).laneB = s.laneB
      ∧ (s.parkRequest).merger = s.merger ∧ (s.parkRequest).pending = s.pending := by
  simp only [State.parkRequest]
  (repeat' split) <;> simp

@[simp] theorem State.unpark_keeps (s : State) :
    (s.unpark).now = s.now ∧ (s.unpark).free = s.free ∧ (s.unpark).cfg = s.cfg ∧ (s.unpark).stop = s.stop
      ∧ (s.unpark).claims = s.claims ∧ (s.unpark).dir = s.dir ∧ (s.unpark).exe = s.exe ∧ (s.unpark).drive = s.drive
      ∧ (s.unpark).dec = s.dec ∧ (s.unpark).tx = s.tx ∧ (s.unpark).laneA = s.laneA ∧ (s.unpark).laneB = s.laneB
      ∧ (s.unpark).merger = s.merger ∧ (s.unpark).counters = s.counters ∧ (s.unpark).pending = s.pending := by
  simp only [State.unpark]
  (repeat' split) <;> simp

@[simp] theorem State.command_keeps (s : State) (v : Byte) :
    (s.command v).now = s.now ∧ (s.command v).free = s.free ∧ (s.command v).dir = s.dir
      ∧ (s.command v).pending = s.pending := by
  simp only [State.command]
  (repeat' split) <;> simp

@[simp] theorem State.selectPage_keeps (s : State) (v : Byte) :
    (s.selectPage v).now = s.now ∧ (s.selectPage v).free = s.free ∧ (s.selectPage v).cfg = s.cfg
      ∧ (s.selectPage v).stop = s.stop ∧ (s.selectPage v).claims = s.claims ∧ (s.selectPage v).dir = s.dir
      ∧ (s.selectPage v).cue = s.cue ∧ (s.selectPage v).exe = s.exe ∧ (s.selectPage v).drive = s.drive
      ∧ (s.selectPage v).dec = s.dec ∧ (s.selectPage v).tx = s.tx ∧ (s.selectPage v).laneA = s.laneA
      ∧ (s.selectPage v).laneB = s.laneB ∧ (s.selectPage v).merger = s.merger
      ∧ (s.selectPage v).counters = s.counters ∧ (s.selectPage v).pending = s.pending := by
  simp only [State.selectPage]
  (repeat' split) <;> simp

@[simp] theorem State.writeLocation_keeps (s : State) (addr v : Byte) :
    (s.writeLocation addr v).now = s.now ∧ (s.writeLocation addr v).free = s.free
      ∧ (s.writeLocation addr v).dir = s.dir ∧ (s.writeLocation addr v).pending = s.pending := by
  simp only [State.writeLocation]
  (repeat' split) <;> simp

@[simp] theorem State.reportMoved_keeps (s : State) :
    (s.reportMoved).now = s.now ∧ (s.reportMoved).free = s.free ∧ (s.reportMoved).cfg = s.cfg
      ∧ (s.reportMoved).stop = s.stop ∧ (s.reportMoved).claims = s.claims ∧ (s.reportMoved).dir = s.dir
      ∧ (s.reportMoved).exe = s.exe ∧ (s.reportMoved).drive = s.drive ∧ (s.reportMoved).dec = s.dec
      ∧ (s.reportMoved).tx = s.tx ∧ (s.reportMoved).laneA = s.laneA ∧ (s.reportMoved).laneB = s.laneB
      ∧ (s.reportMoved).merger = s.merger ∧ (s.reportMoved).port = s.port ∧ (s.reportMoved).counters = s.counters
      ∧ (s.reportMoved).pending = s.pending := by
  simp only [State.reportMoved]
  (repeat' split) <;> simp

@[simp] theorem State.produceSetpoint_keeps (s : State) :
    (s.produceSetpoint).now = s.now ∧ (s.produceSetpoint).free = s.free ∧ (s.produceSetpoint).cfg = s.cfg
      ∧ (s.produceSetpoint).stop = s.stop ∧ (s.produceSetpoint).claims = s.claims ∧ (s.produceSetpoint).dir = s.dir
      ∧ (s.produceSetpoint).drive = s.drive ∧ (s.produceSetpoint).dec = s.dec ∧ (s.produceSetpoint).tx = s.tx
      ∧ (s.produceSetpoint).laneA = s.laneA ∧ (s.produceSetpoint).laneB = s.laneB
      ∧ (s.produceSetpoint).merger = s.merger ∧ (s.produceSetpoint).port = s.port
      ∧ (s.produceSetpoint).counters = s.counters ∧ (s.produceSetpoint).pending = s.pending := by
  simp only [State.produceSetpoint]
  (repeat' split) <;> simp

@[simp] theorem State.sendMessage_keeps (s : State) :
    (s.sendMessage).now = s.now ∧ (s.sendMessage).cfg = s.cfg ∧ (s.sendMessage).stop = s.stop
      ∧ (s.sendMessage).claims = s.claims ∧ (s.sendMessage).dir = s.dir ∧ (s.sendMessage).dec = s.dec
      ∧ (s.sendMessage).tx = s.tx ∧ (s.sendMessage).laneA = s.laneA ∧ (s.sendMessage).laneB = s.laneB
      ∧ (s.sendMessage).merger = s.merger ∧ (s.sendMessage).port = s.port ∧ (s.sendMessage).counters = s.counters
      ∧ (s.sendMessage).pending = s.pending := by
  simp only [State.sendMessage]
  (repeat' split) <;> simp

@[simp] theorem State.linkCycle_keeps (s : State) :
    (s.linkCycle).cfg = s.cfg ∧ (s.linkCycle).stop = s.stop ∧ (s.linkCycle).claims = s.claims
      ∧ (s.linkCycle).dir = s.dir ∧ (s.linkCycle).dec = s.dec ∧ (s.linkCycle).tx = s.tx
      ∧ (s.linkCycle).laneA = s.laneA ∧ (s.linkCycle).laneB = s.laneB ∧ (s.linkCycle).merger = s.merger
      ∧ (s.linkCycle).port = s.port ∧ (s.linkCycle).counters = s.counters ∧ (s.linkCycle).pending = s.pending := by
  simp only [State.linkCycle]
  (repeat' split) <;> simp

@[simp] theorem State.slipRequest_keeps (s : State) :
    (s.slipRequest).now = s.now ∧ (s.slipRequest).free = s.free ∧ (s.slipRequest).cfg = s.cfg
      ∧ (s.slipRequest).claims = s.claims ∧ (s.slipRequest).dir = s.dir ∧ (s.slipRequest).dec = s.dec
      ∧ (s.slipRequest).laneA = s.laneA ∧ (s.slipRequest).laneB = s.laneB ∧ (s.slipRequest).merger = s.merger
      ∧ (s.slipRequest).pending = s.pending := by
  simp [State.slipRequest]

@[simp] theorem State.measureSlip_keeps (s : State) (f : Feedback) (gap : Nat) :
    (s.measureSlip f gap).now = s.now ∧ (s.measureSlip f gap).free = s.free ∧ (s.measureSlip f gap).cfg = s.cfg
      ∧ (s.measureSlip f gap).claims = s.claims ∧ (s.measureSlip f gap).dir = s.dir
      ∧ (s.measureSlip f gap).dec = s.dec ∧ (s.measureSlip f gap).laneA = s.laneA
      ∧ (s.measureSlip f gap).laneB = s.laneB ∧ (s.measureSlip f gap).merger = s.merger
      ∧ (s.measureSlip f gap).pending = s.pending := by
  simp only [State.measureSlip]
  (repeat' split) <;> simp

@[simp] theorem State.testFollowing_keeps (s : State) :
    (s.testFollowing).now = s.now ∧ (s.testFollowing).free = s.free ∧ (s.testFollowing).cfg = s.cfg
      ∧ (s.testFollowing).claims = s.claims ∧ (s.testFollowing).dir = s.dir ∧ (s.testFollowing).dec = s.dec
      ∧ (s.testFollowing).laneA = s.laneA ∧ (s.testFollowing).laneB = s.laneB ∧ (s.testFollowing).merger = s.merger
      ∧ (s.testFollowing).pending = s.pending := by
  simp only [State.testFollowing]
  (repeat' split) <;> simp

@[simp] theorem State.testLimit_keeps (s : State) :
    (s.testLimit).now = s.now ∧ (s.testLimit).free = s.free ∧ (s.testLimit).cfg = s.cfg
      ∧ (s.testLimit).claims = s.claims ∧ (s.testLimit).dir = s.dir ∧ (s.testLimit).dec = s.dec
      ∧ (s.testLimit).laneA = s.laneA ∧ (s.testLimit).laneB = s.laneB ∧ (s.testLimit).merger = s.merger
      ∧ (s.testLimit).pending = s.pending := by
  simp only [State.testLimit]
  (repeat' split) <;> simp

@[simp] theorem State.testPosition_keeps (s : State) (f : Feedback) :
    (s.testPosition f).now = s.now ∧ (s.testPosition f).free = s.free ∧ (s.testPosition f).cfg = s.cfg
      ∧ (s.testPosition f).claims = s.claims ∧ (s.testPosition f).dir = s.dir ∧ (s.testPosition f).dec = s.dec
      ∧ (s.testPosition f).laneA = s.laneA ∧ (s.testPosition f).laneB = s.laneB
      ∧ (s.testPosition f).merger = s.merger ∧ (s.testPosition f).pending = s.pending := by
  simp only [State.testPosition]
  (repeat' split) <;> simp

@[simp] theorem State.executorTests_keeps (s : State) (f : Feedback) :
    (s.executorTests f).now = s.now ∧ (s.executorTests f).free = s.free ∧ (s.executorTests f).cfg = s.cfg
      ∧ (s.executorTests f).claims = s.claims ∧ (s.executorTests f).dir = s.dir ∧ (s.executorTests f).dec = s.dec
      ∧ (s.executorTests f).laneA = s.laneA ∧ (s.executorTests f).laneB = s.laneB
      ∧ (s.executorTests f).merger = s.merger ∧ (s.executorTests f).pending = s.pending := by
  simp [State.executorTests]

@[simp] theorem State.watchRest_keeps (s : State) (f : Feedback) :
    (s.watchRest f).now = s.now ∧ (s.watchRest f).free = s.free ∧ (s.watchRest f).cfg = s.cfg
      ∧ (s.watchRest f).stop = s.stop ∧ (s.watchRest f).claims = s.claims ∧ (s.watchRest f).dir = s.dir
      ∧ (s.watchRest f).cue = s.cue ∧ (s.watchRest f).dec = s.dec ∧ (s.watchRest f).laneA = s.laneA
      ∧ (s.watchRest f).laneB = s.laneB ∧ (s.watchRest f).merger = s.merger ∧ (s.watchRest f).counters = s.counters
      ∧ (s.watchRest f).pending = s.pending := by
  simp only [State.watchRest]
  (repeat' split) <;> simp

@[simp] theorem State.trimAtFeedback_keeps (s : State) :
    (s.trimAtFeedback).now = s.now ∧ (s.trimAtFeedback).free = s.free ∧ (s.trimAtFeedback).cfg = s.cfg
      ∧ (s.trimAtFeedback).stop = s.stop ∧ (s.trimAtFeedback).claims = s.claims ∧ (s.trimAtFeedback).dir = s.dir
      ∧ (s.trimAtFeedback).cue = s.cue ∧ (s.trimAtFeedback).drive = s.drive ∧ (s.trimAtFeedback).dec = s.dec
      ∧ (s.trimAtFeedback).laneA = s.laneA ∧ (s.trimAtFeedback).laneB = s.laneB
      ∧ (s.trimAtFeedback).merger = s.merger ∧ (s.trimAtFeedback).pending = s.pending := by
  simp only [State.trimAtFeedback]
  (repeat' split) <;> simp

/-- A feedback in SETTLING writes nothing but the mark of a trip whose brake has not shown APPLIED. -/
@[simp] theorem State.noteBrake_keeps (s : State) (f : Feedback) :
    (s.noteBrake f).now = s.now ∧ (s.noteBrake f).free = s.free ∧ (s.noteBrake f).cfg = s.cfg
      ∧ (s.noteBrake f).stop = s.stop ∧ (s.noteBrake f).claims = s.claims ∧ (s.noteBrake f).dir = s.dir
      ∧ (s.noteBrake f).cue = s.cue ∧ (s.noteBrake f).drive = s.drive ∧ (s.noteBrake f).dec = s.dec
      ∧ (s.noteBrake f).tx = s.tx ∧ (s.noteBrake f).laneA = s.laneA ∧ (s.noteBrake f).laneB = s.laneB
      ∧ (s.noteBrake f).merger = s.merger ∧ (s.noteBrake f).port = s.port ∧ (s.noteBrake f).counters = s.counters
      ∧ (s.noteBrake f).pending = s.pending := by
  simp only [State.noteBrake]
  (repeat' split) <;> simp

theorem State.noteBrake_exe (s : State) (f : Feedback) :
    (s.noteBrake f).exe = { s.exe with tripOpen := if f.brake = some .applied then false else s.exe.tripOpen } := by
  simp only [State.noteBrake, State.mapExe]
  split <;> rfl

@[simp] theorem State.executorStep_keeps (s : State) (f : Feedback) :
    (s.executorStep f).now = s.now ∧ (s.executorStep f).free = s.free ∧ (s.executorStep f).cfg = s.cfg
      ∧ (s.executorStep f).stop = s.stop ∧ (s.executorStep f).claims = s.claims ∧ (s.executorStep f).dir = s.dir
      ∧ (s.executorStep f).dec = s.dec ∧ (s.executorStep f).laneA = s.laneA ∧ (s.executorStep f).laneB = s.laneB
      ∧ (s.executorStep f).merger = s.merger ∧ (s.executorStep f).pending = s.pending := by
  simp only [State.executorStep]
  (repeat' split) <;> simp_all

@[simp] theorem State.takeFeedback_keeps (s : State) (f : Feedback) :
    (s.takeFeedback f).now = s.now ∧ (s.takeFeedback f).free = s.free ∧ (s.takeFeedback f).cfg = s.cfg
      ∧ (s.takeFeedback f).claims = s.claims ∧ (s.takeFeedback f).dir = s.dir ∧ (s.takeFeedback f).dec = s.dec
      ∧ (s.takeFeedback f).laneA = s.laneA ∧ (s.takeFeedback f).laneB = s.laneB
      ∧ (s.takeFeedback f).merger = s.merger ∧ (s.takeFeedback f).pending = s.pending := by
  simp only [State.takeFeedback]
  (repeat' split) <;> simp

@[simp] theorem State.giveUpWaiting_keeps (s : State) :
    (s.giveUpWaiting).now = s.now ∧ (s.giveUpWaiting).free = s.free ∧ (s.giveUpWaiting).cfg = s.cfg
      ∧ (s.giveUpWaiting).stop = s.stop ∧ (s.giveUpWaiting).claims = s.claims ∧ (s.giveUpWaiting).dir = s.dir
      ∧ (s.giveUpWaiting).drive = s.drive ∧ (s.giveUpWaiting).dec = s.dec ∧ (s.giveUpWaiting).laneA = s.laneA
      ∧ (s.giveUpWaiting).laneB = s.laneB ∧ (s.giveUpWaiting).merger = s.merger
      ∧ (s.giveUpWaiting).pending = s.pending := by
  simp only [State.giveUpWaiting]
  (repeat' split) <;> simp

@[simp] theorem State.raiseBrake_keeps (s : State) :
    (s.raiseBrake).now = s.now ∧ (s.raiseBrake).free = s.free ∧ (s.raiseBrake).cfg = s.cfg
      ∧ (s.raiseBrake).claims = s.claims ∧ (s.raiseBrake).dir = s.dir ∧ (s.raiseBrake).dec = s.dec
      ∧ (s.raiseBrake).laneA = s.laneA ∧ (s.raiseBrake).laneB = s.laneB ∧ (s.raiseBrake).merger = s.merger
      ∧ (s.raiseBrake).pending = s.pending := by
  simp only [State.raiseBrake]
  (repeat' split) <;> simp

@[simp] theorem State.raiseStandstill_keeps (s : State) :
    (s.raiseStandstill).now = s.now ∧ (s.raiseStandstill).free = s.free ∧ (s.raiseStandstill).cfg = s.cfg
      ∧ (s.raiseStandstill).claims = s.claims ∧ (s.raiseStandstill).dir = s.dir ∧ (s.raiseStandstill).dec = s.dec
      ∧ (s.raiseStandstill).laneA = s.laneA ∧ (s.raiseStandstill).laneB = s.laneB
      ∧ (s.raiseStandstill).merger = s.merger ∧ (s.raiseStandstill).pending = s.pending := by
  simp only [State.raiseStandstill]
  (repeat' split) <;> simp

@[simp] theorem State.atIdle_keeps (s : State) :
    (s.atIdle).now = s.now ∧ (s.atIdle).free = s.free ∧ (s.atIdle).cfg = s.cfg ∧ (s.atIdle).stop = s.stop
      ∧ (s.atIdle).claims = s.claims ∧ (s.atIdle).dir = s.dir ∧ (s.atIdle).cue = s.cue ∧ (s.atIdle).exe = s.exe
      ∧ (s.atIdle).drive = s.drive ∧ (s.atIdle).dec = s.dec ∧ (s.atIdle).laneA = s.laneA
      ∧ (s.atIdle).laneB = s.laneB ∧ (s.atIdle).merger = s.merger ∧ (s.atIdle).port = s.port
      ∧ (s.atIdle).counters = s.counters ∧ (s.atIdle).pending = s.pending := by
  simp only [State.atIdle]
  (repeat' split) <;> simp

@[simp] theorem State.winContest_keeps (s : State) (c : FrameClass) :
    (s.winContest c).now = s.now ∧ (s.winContest c).free = s.free ∧ (s.winContest c).cfg = s.cfg
      ∧ (s.winContest c).claims = s.claims ∧ (s.winContest c).dir = s.dir ∧ (s.winContest c).cue = s.cue
      ∧ (s.winContest c).exe = s.exe ∧ (s.winContest c).drive = s.drive ∧ (s.winContest c).dec = s.dec
      ∧ (s.winContest c).laneA = s.laneA ∧ (s.winContest c).laneB = s.laneB ∧ (s.winContest c).merger = s.merger
      ∧ (s.winContest c).port = s.port ∧ (s.winContest c).counters = s.counters
      ∧ (s.winContest c).pending = s.pending := by
  simp only [State.winContest]
  (repeat' split) <;> simp

@[simp] theorem State.collide_keeps (s : State) (c : FrameClass) :
    (s.collide c).now = s.now ∧ (s.collide c).cfg = s.cfg ∧ (s.collide c).stop = s.stop
      ∧ (s.collide c).claims = s.claims ∧ (s.collide c).dir = s.dir ∧ (s.collide c).drive = s.drive
      ∧ (s.collide c).dec = s.dec ∧ (s.collide c).laneA = s.laneA ∧ (s.collide c).laneB = s.laneB
      ∧ (s.collide c).merger = s.merger ∧ (s.collide c).pending = s.pending := by
  simp only [State.collide]
  (repeat' split) <;> simp

@[simp] theorem State.babbles_keeps (s : State) (l : Lane) (bits : List Bool) :
    (s.babbles l bits).now = s.now ∧ (s.babbles l bits).free = s.free ∧ (s.babbles l bits).cfg = s.cfg
      ∧ (s.babbles l bits).stop = s.stop ∧ (s.babbles l bits).dir = s.dir ∧ (s.babbles l bits).exe = s.exe
      ∧ (s.babbles l bits).drive = s.drive ∧ (s.babbles l bits).pending = s.pending := by
  simp only [State.babbles]
  (repeat' split) <;> simp

@[simp] theorem State.laneIdles_keeps (s : State) (l : Lane) (bits : List Bool) :
    (s.laneIdles l bits).now = s.now ∧ (s.laneIdles l bits).free = s.free ∧ (s.laneIdles l bits).cfg = s.cfg
      ∧ (s.laneIdles l bits).stop = s.stop ∧ (s.laneIdles l bits).dir = s.dir ∧ (s.laneIdles l bits).exe = s.exe
      ∧ (s.laneIdles l bits).drive = s.drive ∧ (s.laneIdles l bits).pending = s.pending := by
  simp only [State.laneIdles]
  (repeat' split) <;> simp

@[simp] theorem State.receptionEnds_keeps (s : State) (l : Lane) (bits : List Bool) :
    (s.receptionEnds l bits).now = s.now ∧ (s.receptionEnds l bits).free = s.free
      ∧ (s.receptionEnds l bits).cfg = s.cfg ∧ (s.receptionEnds l bits).stop = s.stop
      ∧ (s.receptionEnds l bits).dir = s.dir ∧ (s.receptionEnds l bits).exe = s.exe
      ∧ (s.receptionEnds l bits).drive = s.drive ∧ (s.receptionEnds l bits).pending = s.pending := by
  simp only [State.receptionEnds]
  (repeat' split) <;> simp

end Sys2Proof.Machine
end

