-- ==== Sys2Proof/Laws/PerInstr.lean ====
section
/-! SUPPORT. The family Operands: what a well-formed command's operands are, said of each row by itself. -/

namespace Sys2Proof.Laws.Operands

open Sys2Proof Sys2Proof.Machine

/-- The frame a frame row carries. -/
def carried : Instr → Option AcceptedFrame
  | .halt source rank body => some ⟨.halt, source, rank, body⟩
  | .stop source rank body => some ⟨.stop, source, rank, body⟩
  | .clear source rank body => some ⟨.clear, source, rank, body⟩
  | .announce source rank body => some ⟨.announce, source, rank, body⟩
  | .restateRequest source rank body => some ⟨.restateRequest, source, rank, body⟩
  | .restate source rank body => some ⟨.restate, source, rank, body⟩
  | .claim source rank body => some ⟨.claim, source, rank, body⟩
  | .trim source rank body => some ⟨.trim, source, rank, body⟩
  | .release source rank body => some ⟨.release, source, rank, body⟩
  | .withdraw source rank body => some ⟨.withdraw, source, rank, body⟩
  | .status source rank body => some ⟨.status, source, rank, body⟩
  | .load source rank body => some ⟨.load, source, rank, body⟩
  | .go source rank body => some ⟨.go, source, rank, body⟩
  | .resume source rank body => some ⟨.resume, source, rank, body⟩
  | .cancel source rank body => some ⟨.cancel, source, rank, body⟩
  | _ => none

/-- The location an access row addresses by an operand. -/
def accessed : Instr → Option Byte
  | .recordWrite addr _ | .interruptFlagsRead addr | .interruptEnablesWrite addr _ | .laneKindSetRead addr
  | .claimsSelection addr _ | .registerWrite addr _ => some addr
  | _ => none

/-- A well-formed frame row is the command of a frame whose source is a station number (R137) and whose body fits (R136), and
a well-formed access lies below 0x30 exactly when it is a RECORD_WRITE (R182). -/
def Statement (i : Instr) : Prop :=
  i.wellFormed = true →
    (∀ f, carried i = some f → f.command = i ∧ 1 ≤ f.source.toNat ∧ f.source.toNat ≤ 99 ∧ f.body.length ≤ 96)
    ∧ (∀ a, accessed i = some a → (a.toNat < 0x30 ↔ ∃ value, i = .recordWrite a value))

/-- A row with neither a frame nor an addressed location. -/
theorem ofPlain {i : Instr} (hc : carried i = none) (ha : accessed i = none) : Statement i := by
  intro _
  exact ⟨fun f h => by simp [hc] at h, fun a h => by simp [ha] at h⟩

/-- A row that carries a frame and addresses no location. -/
theorem ofFrame {i : Instr} {f : AcceptedFrame} (hc : carried i = some f) (hi : f.command = i)
    (hw : i.wellFormed = frameOperands f.source f.body) (ha : accessed i = none) : Statement i := by
  intro h
  refine ⟨fun g hg => ?_, fun a h => by simp [ha] at h⟩
  obtain rfl : f = g := by simpa [hc] using hg
  simp only [hw, frameOperands, Bool.and_eq_true, decide_eq_true_eq] at h
  exact ⟨hi, h.1.1, h.1.2, h.2⟩

/-- An access outside the record. -/
theorem ofAccess {i : Instr} {a : Byte} (hc : carried i = none) (ha : accessed i = some a)
    (outside : i.wellFormed = true → ¬a.toNat < 0x30) (hi : ∀ value, i ≠ .recordWrite a value) : Statement i := by
  intro h
  refine ⟨fun f hf => by simp [hc] at hf, fun b hb => ?_⟩
  obtain rfl : a = b := by simpa [ha] using hb
  exact ⟨fun hlt => absurd hlt (outside h), fun ⟨value, hv⟩ => absurd hv (hi value)⟩

theorem powerOnReset : Statement .powerOnReset := ofPlain rfl rfl

theorem pinReset : Statement .pinReset := ofPlain rfl rfl

theorem configWindowExpiry : Statement .configWindowExpiry := ofPlain rfl rfl

theorem close : Statement .close := ofPlain rfl rfl

theorem parkRequest : Statement .parkRequest := ofPlain rfl rfl

theorem unpark : Statement .unpark := ofPlain rfl rfl

theorem ackStopRecord : Statement .ackStopRecord := ofPlain rfl rfl

theorem clearCounters : Statement .clearCounters := ofPlain rfl rfl

theorem recordWrite (addr value : Byte) : Statement (.recordWrite addr value) := by
  intro h
  simp only [Instr.wellFormed, decide_eq_true_eq] at h
  refine ⟨fun f hf => by simp [carried] at hf, fun a ha => ?_⟩
  obtain rfl : addr = a := by simpa [accessed] using ha
  exact ⟨fun _ => ⟨value, rfl⟩, fun _ => h⟩

theorem interruptFlagsRead (addr : Byte) : Statement (.interruptFlagsRead addr) :=
  ofAccess rfl rfl (by simp [Instr.wellFormed]; try omega) (by simp)

theorem interruptEnablesWrite (addr value : Byte) : Statement (.interruptEnablesWrite addr value) :=
  ofAccess rfl rfl (by simp [Instr.wellFormed]; try omega) (by simp)

theorem laneKindSetRead (addr : Byte) : Statement (.laneKindSetRead addr) :=
  ofAccess rfl rfl (by simp [Instr.wellFormed]; try omega) (by simp)

theorem directorySelection (index : Byte) : Statement (.directorySelection index) := ofPlain rfl rfl

theorem claimsSelection (addr value : Byte) : Statement (.claimsSelection addr value) :=
  ofAccess rfl rfl (by simp [Instr.wellFormed]; try omega) (by simp)

theorem queueSelection (position : Byte) : Statement (.queueSelection position) := ofPlain rfl rfl

theorem counterSelection (number : Byte) : Statement (.counterSelection number) := ofPlain rfl rfl

theorem laneCountSelection (selection : Byte) : Statement (.laneCountSelection selection) := ofPlain rfl rfl

theorem bodyDataWrite (value : Byte) : Statement (.bodyDataWrite value) := ofPlain rfl rfl

theorem bodyDataRead : Statement .bodyDataRead := ofPlain rfl rfl

theorem submit (value : Byte) : Statement (.submit value) := ofPlain rfl rfl

theorem registerWrite (addr value : Byte) : Statement (.registerWrite addr value) :=
  ofAccess rfl rfl (by simp [Instr.wellFormed, ownRowLocation]; try omega) (by simp)

theorem linkCycle : Statement .linkCycle := ofPlain rfl rfl

theorem feedback (message : List Byte) : Statement (.feedback message) := ofPlain rfl rfl

theorem feedbackMissing : Statement .feedbackMissing := ofPlain rfl rfl

theorem loopInputChange (closed : Bool) : Statement (.loopInputChange closed) := ofPlain rfl rfl

theorem loopOpening : Statement .loopOpening := ofPlain rfl rfl

theorem loopClosing : Statement .loopClosing := ofPlain rfl rfl

theorem localStopInputChange (asserted : Bool) : Statement (.localStopInputChange asserted) := ofPlain rfl rfl

theorem localStop : Statement .localStop := ofPlain rfl rfl

theorem localStopRelease : Statement .localStopRelease := ofPlain rfl rfl

theorem slippingBrake : Statement .slippingBrake := ofPlain rfl rfl

theorem delayExpiry : Statement .delayExpiry := ofPlain rfl rfl

theorem waitExpired : Statement .waitExpired := ofPlain rfl rfl

theorem brakeTimeLimit : Statement .brakeTimeLimit := ofPlain rfl rfl

theorem standstill : Statement .standstill := ofPlain rfl rfl

theorem standstillTimeout : Statement .standstillTimeout := ofPlain rfl rfl

theorem tripRestTimeout : Statement .tripRestTimeout := ofPlain rfl rfl

theorem restateWindowExpiry : Statement .restateWindowExpiry := ofPlain rfl rfl

theorem silence (station : BitVec 7) : Statement (.silence station) := ofPlain rfl rfl

theorem reportPeriod : Statement .reportPeriod := ofPlain rfl rfl

theorem busIdle : Statement .busIdle := ofPlain rfl rfl

theorem contestLost : Statement .contestLost := ofPlain rfl rfl

theorem contestWon : Statement .contestWon := ofPlain rfl rfl

theorem collision : Statement .collision := ofPlain rfl rfl

theorem frameSent : Statement .frameSent := ofPlain rfl rfl

theorem echoLost : Statement .echoLost := ofPlain rfl rfl

theorem leadEstablished (lane : Lane) : Statement (.leadEstablished lane) := ofPlain rfl rfl

theorem babble (lane : Lane) (bits : List Bool) : Statement (.babble lane bits) := ofPlain rfl rfl

theorem laneIdle (lane : Lane) (bits : List Bool) : Statement (.laneIdle lane bits) := ofPlain rfl rfl

theorem receptionEnd (lane : Lane) (bits : List Bool) : Statement (.receptionEnd lane bits) := ofPlain rfl rfl

theorem skewWindowExpiry : Statement .skewWindowExpiry := ofPlain rfl rfl

theorem tailExpiry : Statement .tailExpiry := ofPlain rfl rfl

theorem halt (source : BitVec 7) (rank : BitVec 2) (body : List Byte) :
    Statement (.halt source rank body) := ofFrame rfl rfl rfl rfl

theorem stop (source : BitVec 7) (rank : BitVec 2) (body : List Byte) :
    Statement (.stop source rank body) := ofFrame rfl rfl rfl rfl

theorem clear (source : BitVec 7) (rank : BitVec 2) (body : List Byte) :
    Statement (.clear source rank body) := ofFrame rfl rfl rfl rfl

theorem announce (source : BitVec 7) (rank : BitVec 2) (body : List Byte) :
    Statement (.announce source rank body) := ofFrame rfl rfl rfl rfl

theorem restateRequest (source : BitVec 7) (rank : BitVec 2) (body : List Byte) :
    Statement (.restateRequest source rank body) := ofFrame rfl rfl rfl rfl

theorem restate (source : BitVec 7) (rank : BitVec 2) (body : List Byte) :
    Statement (.restate source rank body) := ofFrame rfl rfl rfl rfl

theorem claim (source : BitVec 7) (rank : BitVec 2) (body : List Byte) :
    Statement (.claim source rank body) := ofFrame rfl rfl rfl rfl

theorem trim (source : BitVec 7) (rank : BitVec 2) (body : List Byte) :
    Statement (.trim source rank body) := ofFrame rfl rfl rfl rfl

theorem release (source : BitVec 7) (rank : BitVec 2) (body : List Byte) :
    Statement (.release source rank body) := ofFrame rfl rfl rfl rfl

theorem withdraw (source : BitVec 7) (rank : BitVec 2) (body : List Byte) :
    Statement (.withdraw source rank body) := ofFrame rfl rfl rfl rfl

theorem status (source : BitVec 7) (rank : BitVec 2) (body : List Byte) :
    Statement (.status source rank body) := ofFrame rfl rfl rfl rfl

theorem load (source : BitVec 7) (rank : BitVec 2) (body : List Byte) :
    Statement (.load source rank body) := ofFrame rfl rfl rfl rfl

theorem go (source : BitVec 7) (rank : BitVec 2) (body : List Byte) :
    Statement (.go source rank body) := ofFrame rfl rfl rfl rfl

theorem resume (source : BitVec 7) (rank : BitVec 2) (body : List Byte) :
    Statement (.resume source rank body) := ofFrame rfl rfl rfl rfl

theorem cancel (source : BitVec 7) (rank : BitVec 2) (body : List Byte) :
    Statement (.cancel source rank body) := ofFrame rfl rfl rfl rfl

theorem laneActive (lane : Lane) : Statement (.laneActive lane) := ofPlain rfl rfl

end Sys2Proof.Laws.Operands
end

