-- ==== Sys2Proof/Laws/Queues.lean ====
section
/-! SUPPORT. What the queue operations of the Transmitter do to the frames of each class, and that they keep each queue within
its places. -/

namespace Sys2Proof.Machine

@[simp] theorem Transmitter.queue_setQueue_self (t : Transmitter) (c : FrameClass) (q : TxQueue) :
    (t.setQueue c q).queue c = q := by cases c <;> rfl

theorem Transmitter.queue_setQueue_other (t : Transmitter) {c d : FrameClass} (h : d ≠ c) (q : TxQueue) :
    (t.setQueue c q).queue d = t.queue d := by cases c <;> cases d <;> first | rfl | exact absurd rfl h

@[simp] theorem Transmitter.queue_setQueue (t : Transmitter) (c d : FrameClass) (q : TxQueue) :
    (t.setQueue c q).queue d = if d = c then q else t.queue d := by
  split
  · next h => subst h; simp
  · next h => exact t.queue_setQueue_other h q

/-- Changing what is not a queue changes no queue. -/
@[simp] theorem Transmitter.queue_with_flight (t : Transmitter) (state : TxState) (expected : Option Kind) (since : Option Nat)
    (deferral : Nat) (c : FrameClass) :
    ({ t with state := state, expected := expected, echoSince := since, deferral := deferral } : Transmitter).queue c
      = t.queue c := by cases c <;> rfl

/-- What filling free places does to the queues: the same frames in the same order, waiting ones moved up. -/
theorem State.fillPlaces_queue (s : State) (c d : FrameClass) :
    (s.fillPlaces c).tx.queue d = if d = c then
        ⟨(s.tx.queue c).places ++ (s.tx.queue c).waiting.take (c.capacity - (s.tx.queue c).places.length),
          (s.tx.queue c).waiting.drop (c.capacity - (s.tx.queue c).places.length)⟩
      else s.tx.queue d := by
  unfold State.fillPlaces
  dsimp only
  split <;> simp

@[simp] theorem State.fillPlaces_frames (s : State) (c d : FrameClass) :
    ((s.fillPlaces c).tx.queue d).frames = (s.tx.queue d).frames := by
  rw [State.fillPlaces_queue]
  split
  · next h => subst h; simp [TxQueue.frames, List.append_assoc]
  · rfl

/-- Filling free places leaves frames waiting only where there is no place. -/
theorem State.fillPlaces_ok (s : State) (c : FrameClass) (h : (s.tx.queue c).places.length ≤ c.capacity) :
    ((s.fillPlaces c).tx.queue c).ok c.capacity = true := by
  simp only [State.fillPlaces_queue, if_true, TxQueue.ok, List.length_append, List.length_take, Bool.and_eq_true,
    decide_eq_true_eq, Bool.or_eq_true, beq_iff_eq, List.isEmpty_iff, List.drop_eq_nil_iff]
  omega

/-- A frame the Transmitter takes stands last in its class, and every other class stands as it stood. -/
theorem State.enqueue_frames (s : State) (f : TxFrame) (d : FrameClass) :
    ((s.enqueue f).tx.queue d).frames =
      (s.tx.queue d).frames ++ (if d = f.kind.cls ∧ s.takesFrames d = true then [f] else []) := by
  unfold State.enqueue
  by_cases ht : s.takesFrames f.kind.cls = true
  · by_cases hd : d = f.kind.cls
    · subst hd; simp [ht]; simp [TxQueue.frames]
    · simp [ht, hd]
  · by_cases hd : d = f.kind.cls
    · subst hd; simp [ht]
    · simp [ht, hd]

/-- Queueing keeps every class within its places. -/
theorem State.enqueue_ok (s : State) (f : TxFrame) (d : FrameClass) (h : (s.tx.queue d).ok d.capacity = true) :
    ((s.enqueue f).tx.queue d).ok d.capacity = true := by
  unfold State.enqueue
  dsimp only
  split
  · by_cases hd : d = f.kind.cls
    · subst hd
      refine State.fillPlaces_ok _ _ ?_
      simp only [TxQueue.ok, Bool.and_eq_true, decide_eq_true_eq] at h
      simpa using h.1
    · rw [State.fillPlaces_queue, if_neg hd]
      simpa [hd] using h
  · exact h

/-- Removing unsent frames takes out exactly those it picks, of its class alone. -/
theorem State.removeUnsent_frames (s : State) (c d : FrameClass) (p : TxFrame → Bool) :
    ((s.removeUnsent c p).tx.queue d).frames = if d = c then (s.tx.queue c).frames.filter fun f => f.inFlight || !p f
      else (s.tx.queue d).frames := by
  unfold State.removeUnsent
  dsimp only
  rw [State.fillPlaces_frames]
  cases c <;> cases d <;> simp [Transmitter.queue, Transmitter.setQueue, TxQueue.frames]

/-- Removing unsent frames keeps every class within its places. -/
theorem State.removeUnsent_ok (s : State) (c d : FrameClass) (p : TxFrame → Bool)
    (h : (s.tx.queue d).ok d.capacity = true) : ((s.removeUnsent c p).tx.queue d).ok d.capacity = true := by
  unfold State.removeUnsent
  dsimp only
  by_cases hd : d = c
  · subst hd
    refine State.fillPlaces_ok _ _ ?_
    simp only [TxQueue.ok, Bool.and_eq_true, decide_eq_true_eq] at h
    refine Nat.le_trans ?_ h.1
    cases d <;> simpa [Transmitter.queue, Transmitter.setQueue] using List.length_filter_le _ _
  · rw [State.fillPlaces_queue, if_neg hd]
    revert h hd
    cases c <;> cases d <;> simp [Transmitter.queue, Transmitter.setQueue]

/-- The frame in flight has left: no frame of the class's places flies, and the Transmitter rests. -/
theorem State.leaveFlight_rests (s : State) (c : FrameClass) :
    (s.leaveFlight c).tx.state = .idle ∧ (s.leaveFlight c).tx.expected = none ∧ (s.leaveFlight c).tx.echoSince = none
      ∧ ((s.leaveFlight c).tx.queue c).frames
        = (s.tx.queue c).places.filter (fun f => !f.inFlight) ++ (s.tx.queue c).waiting := by
  unfold State.leaveFlight State.fillPlaces
  cases c <;> (dsimp only; split) <;>
    simp [Transmitter.queue, Transmitter.setQueue, TxQueue.frames, State.mailboxFreed, State.setFlag, List.append_assoc]

end Sys2Proof.Machine
end

