-- ==== Sys2Proof/Laws/Trajectory.lean ====
section
/-! SUPPORT. What the integer square roots and the deceleration are: the two roots bound the number from both sides, a
deceleration begins at its start with its speed, and never leaves the span to its target. -/

namespace Sys2Proof.Machine

theorem greatest_ok (ok : Nat → Bool) (bits base : Nat) (h : ok base = true) : ok (greatest ok bits base) = true := by
  induction bits generalizing base with
  | zero => exact h
  | succ b ih =>
    unfold greatest
    split
    · rename_i h'; exact ih _ h'
    · exact ih _ h

theorem greatest_next (ok : Nat → Bool) (bits base : Nat) (h : ok (base + 2 ^ bits) = false) :
    ok (greatest ok bits base + 1) = false := by
  induction bits generalizing base with
  | zero => simpa [greatest] using h
  | succ b ih =>
    unfold greatest
    split
    · exact ih _ (by rw [← h, Nat.pow_succ]; congr 1; omega)
    · rename_i h'; exact ih _ (by simpa using h')

theorem isqrt_sq_le (n : Nat) : isqrt n * isqrt n ≤ n := by
  have h := greatest_ok (fun p => p * p ≤ n) (n.log2 / 2 + 1) 0 (by simp)
  simpa [isqrt] using h

theorem lt_isqrt_succ_sq (n : Nat) : n < (isqrt n + 1) * (isqrt n + 1) := by
  have h := greatest_next (fun p => p * p ≤ n) (n.log2 / 2 + 1) 0 (by
    have h₁ : n < 2 ^ (n.log2 + 1) := Nat.lt_log2_self
    have h₂ : 2 ^ (n.log2 + 1) ≤ 2 ^ (n.log2 / 2 + 1) * 2 ^ (n.log2 / 2 + 1) := by
      rw [← Nat.pow_add]
      exact Nat.pow_le_pow_right (by decide) (by omega)
    simp only [Nat.zero_add, decide_eq_false_iff_not, Nat.not_le]
    exact Nat.lt_of_lt_of_le h₁ h₂)
  simpa [isqrt] using h

theorem isqrt_zero : isqrt 0 = 0 := by decide

theorem le_ceilSqrt_sq (n : Nat) : n ≤ ceilSqrt n * ceilSqrt n := by
  have h := lt_isqrt_succ_sq n
  simp only [ceilSqrt]
  split <;> omega

theorem isqrt_mono {m n : Nat} (h : m ≤ n) : isqrt m ≤ isqrt n := by
  have h₁ := isqrt_sq_le m
  have h₂ := lt_isqrt_succ_sq n
  rcases Nat.lt_or_ge (isqrt n) (isqrt m) with h' | h'
  · have h₃ : (isqrt n + 1) * (isqrt n + 1) ≤ isqrt m * isqrt m := Nat.mul_le_mul h' h'
    omega
  · exact h'

theorem Speed.slowed_zero (v : Speed) (s : Nat) : v.slowed s 0 = v := rfl

theorem decelAt_zero (D : Nat) (v : Speed) (s : Nat) : decelAt D v s 0 = 0 := by
  unfold decelAt decelLength
  rw [Speed.slowed_zero]
  split <;> simp_all [isqrt_zero]

theorem decelAt_le (D : Nat) (v : Speed) (s t : Nat) : decelAt D v s t ≤ D := Nat.min_le_left _ _

/-- A deceleration is never faster than at its start. -/
theorem Speed.whole_slowed_le (v : Speed) (s t : Nat) : (v.slowed s t).whole.1 ≤ v.whole.1 := by
  by_cases h : (v.slowed s t).ended
  · simp [Speed.whole, h]
  · have h' : ¬v.ended := by
      intro h₁
      apply h
      simp only [Speed.ended, decide_eq_true_eq] at h₁
      have h₂ : v.less ≤ v.less + s * t := Nat.le_add_right _ _
      exact decide_eq_true (Nat.le_trans h₁ (Nat.mul_le_mul_right _ (Nat.mul_le_mul h₂ h₂)))
    simp only [Speed.whole, if_neg h, if_neg h']
    exact Nat.div_le_div_right (Nat.sub_le_sub_left (Nat.le_add_right _ _) _)

end Sys2Proof.Machine
end

