-- ==== Sys2Proof/Tests/Slice0.lean ====
section
/-! SUPPORT. Tests: what the well-formedness check refuses, and for every statement a concrete state and operands that meet its
hypotheses, clause by clause. -/

namespace Sys2Proof.Tests

open Sys2Proof Sys2Proof.Machine

/-! ### Well-formedness: an ill-formed command for each check -/

theorem test_wf_recordWrite : (Instr.recordWrite 0x30 0).wellFormed = false := by decide
theorem test_wf_recordWrite_last : (Instr.recordWrite 0x2F 0).wellFormed = true := by decide
theorem test_wf_interruptFlagsRead : (Instr.interruptFlagsRead 0x4A).wellFormed = false := by decide
theorem test_wf_interruptEnablesWrite : (Instr.interruptEnablesWrite 0x49 0).wellFormed = false := by decide
theorem test_wf_laneKindSetRead : (Instr.laneKindSetRead 0x64).wellFormed = false := by decide
theorem test_wf_claimsSelection : (Instr.claimsSelection 0xA2 0).wellFormed = false := by decide
theorem test_wf_registerWrite_location : (Instr.registerWrite 0xE3 0).wellFormed = false := by decide
theorem test_wf_registerWrite_command : (Instr.registerWrite 0x40 5).wellFormed = false := by decide
theorem test_wf_registerWrite_noCommand : (Instr.registerWrite 0x40 6).wellFormed = true := by decide
theorem test_wf_silence : (Instr.silence 0).wellFormed = false := by decide
theorem test_wf_silence_high : (Instr.silence 100).wellFormed = false := by decide
theorem test_wf_source_zero : (Instr.halt 0 3 []).wellFormed = false := by decide
theorem test_wf_source_high : (Instr.cancel 100 3 []).wellFormed = false := by decide
theorem test_wf_body : (Instr.load 99 3 (List.replicate 97 0)).wellFormed = false := by decide

/-! ### States to test on -/

/-- The answer's next state. -/
def after (c : Instr) (s : State) : State :=
  match exec c s with
  | .next t => t
  | .fault _ | .refused _ => s

/-- A valid AXIS record: station 5 at slot 10, travel from 1,000 mm to 20,000 mm. -/
def axisCfg : ConfigStore where
  image := #v[5, 0, 10, 1, 1, 3, 0xE8, 1, 0xF4, 0, 100, 0x07, 0xD0, 0x4E, 0x20, 3,
    0xE8, 3, 0xE8, 0, 50, 0x01, 0x2C, 0, 3, 0, 0, 0, 0, 0, 0, 0,
    0, 0, 3, 3, 1, 0x13, 0x88, 20, 0, 200, 0, 250, 0, 0, 1, 0xF4]
  written := 0x3FFFFFF
  fault := none

/-- A valid DESK record: station 5. -/
def deskCfg : ConfigStore where
  image := #v[5, 1, 0, 0, 0, 0, 0, 0, 0, 0, 0, 0, 0, 0, 0, 0,
    0, 0, 0, 0, 0, 0x01, 0x2C, 0, 0, 0, 0, 0, 0, 0, 0, 0,
    0, 0, 3, 3, 1, 0x13, 0x88, 20, 0, 200, 0, 250, 0, 0, 0, 0]
  written := 0x3FFFFFF
  fault := none

theorem test_axisCfg_valid : axisCfg.validate = none ∧ axisCfg.role = .axis ∧ axisCfg.number = 5 := by decide
theorem test_deskCfg_valid : deskCfg.validate = none ∧ deskCfg.role = .desk := by decide

/-- A feedback at 10,000 mm at rest, with this condition byte. -/
def feedbackAt (condition : Byte) (arrival : Nat) : Feedback := ⟨10000, 0, condition, arrival⟩

/-- The message of that feedback. -/
def message (condition : Byte) : List Byte :=
  [3, 0x27, 0x10, 0, 0, condition, 0 - (3 + 0x27 + 0x10 + condition)]

/-- An AXIS peer, station 1, at slot 10. -/
def peer : Entry := ⟨1, ⟨.axis, 10, 1, 1, 1000, 500, 100, 0, [], 3⟩, true, none, 0⟩

/-- A DESK peer, station 7. -/
def deskPeer : Entry := ⟨7, ⟨.desk, 0, 0, 0, 0, 0, 0, 0, [], 1⟩, true, none, 0⟩

/-- A station on the bus, joined, with its loop closed, a peer AXIS 1 and a peer DESK 7. -/
def joined (cfg : ConfigStore) (mode : Mode) : State := { State.reset with
  cfg := cfg
  stop := { StopController.reset with mode := mode, joinStage := .joined }
  drive := { DrivePort.resetWith true false with latest := some (feedbackAt 5 0), nextLink := 1000, linkOn := cfg.role == .axis }
  dir := ⟨[peer, deskPeer], some 20000, false⟩ }

/-- The AXIS in ACTIVE. -/
def axis : State := joined axisCfg .active

/-- The DESK in ACTIVE. -/
def desk : State := joined deskCfg .active

/-- A segment of cue 1 to 12,000 mm. -/
def segment : Segment := ⟨1, 1, 12000, 500, 300, 300, 4, none, none, 5000, false, false⟩

/-- That segment at the head of the queue, started. -/
def head : QueueEntry := ⟨segment, 4, true, true, false, false⟩

/-- The own SWEEP, HELD, from 9,000 mm to 13,000 mm with the margins. -/
def ownSweep : Claim := ⟨5, .sweep .held 4 1 1, ⟨9, 11⟩, ⟨8000, 14000⟩, true⟩

/-- The AXIS executing the segment, in this motion state, with the setpoint held. -/
def running (motion : Motion) : State := { axis with
  cue := { CueEngine.reset with queue := [head] }
  claims := { ClaimsEngine.reset with table := [(0, ownSweep)] }
  exe := { Executor.reset with
    motion := motion, segment := some segment, startHeight := some 10000
    setpoint := if motion.restful then none else some 10000
    preMove := some ⟨9000, 11000⟩ }
  drive := { axis.drive with torqueReq := !motion.restful && motion != .paused, brakeReq := motion == .unbraking || motion == .moving } }

/-- UNBRAKING since 0. -/
def unbraking : State := { running .unbraking with exe := { (running .unbraking).exe with brakeSince := some 0 } }

/-- MOVING on the profile from 10,000 mm. -/
def moving : State := { running .moving with
  exe := { (running .moving).exe with
    trajectory := some (.profile 10000 12000 500 300 300 0), restSince := some 6000000, standSince := some 0 } }

/-- The same AXIS in CONFIG, with nothing on the bus. -/
def configuring (cfg : ConfigStore) : State := { State.reset with cfg := cfg, drive := DrivePort.resetWith true false }

theorem test_states_wellFormed : axis.executorOk ∧ axis.driveOk ∧ axis.queuesOk ∧ axis.tableOk ∧ axis.directoryOk ∧ axis.quiet
    ∧ axis.flagsOk ∧ axis.oneInFlight := by decide
theorem test_running_wellFormed : moving.executorOk ∧ moving.driveOk ∧ unbraking.executorOk ∧ unbraking.driveOk
    ∧ moving.tableOk ∧ moving.queuesOk := by decide

/-! ### Witnesses: steps, resets and the window -/

/-- A queue that is empty, with the link cycle due, and 500 µs before the next cycle with nothing due. -/
theorem test_witness_idle : State.reset.pending = [] ∧ State.reset.dueCommand = some .linkCycle
    ∧ (after .linkCycle State.reset).dueCommand = none := by decide

theorem test_idleTime : (match step (after .linkCycle State.reset) with | .next t => t.now | _ => 0) = 1 := by decide

theorem test_witness_window : State.reset.stop.mode = .config ∧ State.reset.cfg.validate = some (1, .unwritten)
    ∧ axis.stop.mode ≠ .config
    ∧ (configuring axisCfg).quiet = true ∧ (configuring axisCfg).stop.mode = .config ∧ (configuring axisCfg).cfg.validate = none
    ∧ (configuring deskCfg).quiet = true ∧ (configuring deskCfg).stop.mode = .config
    ∧ (configuring deskCfg).cfg.validate = none := by decide

theorem test_close_axis : (after .close (configuring axisCfg)).stop.mode = .joining
    ∧ (after .close (configuring axisCfg)).claims.view = .suspect := by decide
theorem test_close_loopOpen : (after .close { configuring axisCfg with drive := DrivePort.resetWith false false }).stop.mode = .stopped := by
  decide
theorem test_close_inert : (after .close State.reset).stop.mode = .inert := by decide
theorem test_configWindowExpiry : (after .configWindowExpiry State.reset).now = 15000000 := by decide

/-! ### Witnesses: the controller port -/

theorem test_witness_ack : { axis with stop := { axis.stop with mode := .stopped } }.stop.record = none
    ∧ (0x50 : Byte).toNat ≤ (0x5F : Byte).toNat
    ∧ (after .linkCycle { axis with stop := { axis.stop with mode := .stopped } }).stop.mode = .stopped
    ∧ desk.stop.record = none ∧ desk.cfg.role = .desk := by decide

theorem test_witness_counters : Counter.tableFull.number.val = (1 : Byte).toNat ∧ Counter.disagree.number.val = (35 : Byte).toNat
    ∧ 36 ≤ (36 : Byte).toNat ∧ LaneKind.babble.number.val = LaneKind.babble.number.val % 16
    ∧ 10 ≤ (0x8A : Byte).toNat % 16 := by decide

/-- Offsets 0, 95 and 96. -/
theorem test_witness_body : axis.port.mailbox.offset.toNat < 96 ∧ (95 : Byte).toNat < 96 ∧ (96 : Byte).toNat ≤ 96
    ∧ axis.uncaptured 0xE3 = true := by decide

theorem test_bodyDataWrite : (after (.bodyDataWrite 7) axis).port.mailbox.buffer[0] = 7
    ∧ (after (.bodyDataWrite 7) axis).port.mailbox.offset = 1 := by decide

/-- The mailbox with a kind, a length and a state. -/
def mail (s : State) (kind length : Byte) (busy : Bool) : State :=
  { s with port := { s.port with mailbox := { s.port.mailbox with kind, length, busy } } }

theorem test_witness_submit : (mail axis 0 0 true).port.mailbox.busy = true
    ∧ State.reset.port.mailbox.busy = false ∧ State.reset.stop.mode.onBus = false
    ∧ (mail axis 3 4 false).mailboxKind = none ∧ (mail axis 1 97 false).mailboxKind = some .halt
    ∧ 96 < (mail axis 1 97 false).port.mailbox.length.toNat ∧ (mail axis 1 96 false).port.mailbox.length.toNat ≤ 96
    ∧ (mail axis 1 4 false).hasRoom .safe = true
    ∧ ((after (.submit 0) (mail (after (.submit 0) (mail axis 1 4 false)) 1 4 false)).tx.queue .safe).places.length
        = FrameClass.safe.capacity
    ∧ (mail desk 3 4 false).mailboxKind = some .clear := by decide

theorem test_submit_clear_at_desk : ((after (.submit 0) (mail desk 3 4 false)).tx.queue .safe).places.length = 1 := by
  decide

theorem test_witness_writes : (0 : Byte).toNat < 48 ∧ (47 : Byte).toNat < 48 ∧ ownRowLocation 0x30 = false
    ∧ ownRowCommand 0x30 0 = false ∧ ownRowLocation 0x81 = false ∧ ownRowLocation 0xE0 = false ∧ ownRowLocation 0xE2 = false
    ∧ ownRowLocation 0x40 = false ∧ ownRowCommand 0x40 6 = false ∧ ownRowCommand 0x40 1 = true := by decide

theorem test_recordWrite : (after (.recordWrite 0 5) State.reset).cfg.number = 5
    ∧ (after (.recordWrite 0 5) State.reset).cfg.written.getLsbD 0 = true
    ∧ (after (.recordWrite 0 6) axis).cfg.number = 5 := by decide

theorem test_witness_reads : axis.uncaptured 0x48 = true ∧ axis.uncaptured 0x49 = true ∧ axis.uncaptured 0x60 = true
    ∧ axis.uncaptured 0x61 = true ∧ axis.uncaptured 0x62 = true ∧ axis.uncaptured 0x63 = true := by decide

theorem test_interruptFlagsRead : (after (.interruptFlagsRead 0x48) { axis with port := { axis.port with flags := 0x0311 } }).port.sdo = 0x11
    ∧ (after (.interruptFlagsRead 0x48) { axis with port := { axis.port with flags := 0x0311 } }).port.flags = 0x0300 := by
  decide

theorem test_witness_selections : axis.dir.entries[(1 : Byte).toNat]? = some deskPeer ∧ axis.dir.entries[(2 : Byte).toNat]? = none := by
  decide

theorem test_directorySelection : (after (.directorySelection 1) axis).port.dirHead = [3, 7, 0, 0] := by decide
theorem test_claimsSelection : (after (.claimsSelection 0xA1 5) moving).port.claimsCopy.take 2 = [5, 5] := by decide
theorem test_queueSelection : (after (.queueSelection 0) moving).port.queueCopy.take 2 = [7, 4] := by decide

theorem test_witness_snapshots : Instr.linkCycle.wellFormed = true ∧ Instr.linkCycle.isReset = false
    ∧ axis.stop.mode ≠ .config ∧ (∀ i, Instr.linkCycle ≠ .directorySelection i) := by
  refine ⟨by decide, by decide, by decide, by simp⟩

theorem test_witness_commands : axis.cfg.role = .axis ∧ axis.stop.mode.onBus = true ∧ axis.cue.parked = .notParked
    ∧ axis.inCue = false ∧ moving.inCue = true ∧ moving.cue.parked = .notParked
    ∧ (after .parkRequest axis).cue.parked ≠ .notParked ∧ desk.cfg.role ≠ .axis ∧ State.reset.stop.mode.onBus = false
    ∧ 5 < (6 : Byte).toNat := by decide

theorem test_parkRequest : (after .parkRequest moving).cue.parked = .pending ∧ (after .parkRequest axis).cue.parked = .parked := by
  decide
theorem test_unpark : (after .unpark (after .parkRequest axis)).cue.parked = .notParked := by decide

/-! ### Witnesses: the drive and the plant lines -/

theorem test_witness_link : desk.drive.linkOn = false ∧ axis.drive.linkOn = true ∧ axis.exe.motion.restful = true
    ∧ State.reset.stop.mode.onBus = false ∧ State.reset.drive.linkOn = true
    ∧ unbraking.stop.mode.onBus = true ∧ unbraking.exe.setpoint = some 10000
    ∧ { unbraking with exe := { unbraking.exe with setpoint := none } }.exe.setpoint = none := by decide

/-- In MOVING inside the own HELD sweep, and with no such sweep. -/
theorem test_witness_linkMoving : moving.drive.linkOn = true ∧ moving.stop.mode.onBus = true
    ∧ moving.exe.trajectory = some (.profile 10000 12000 500 300 300 0)
    ∧ moving.ownSweep = some ownSweep ∧ ownSweep.isHeld = true
    ∧ (moving.ownOccupied (Trajectory.heightAt (.profile 10000 12000 500 300 300 0) 1000)).inside ownSweep.vertical = true
    ∧ { moving with claims := ClaimsEngine.reset }.ownSweep = none := by decide

theorem test_linkCycle_moves : (after .linkCycle { moving with now := 100000, drive := { moving.drive with nextLink := 100000 } }).exe.setpoint
    = some 10001 := by decide
theorem test_linkCycle_poll : (after .linkCycle axis).drive.outbound = pollMessage ∧ (after .linkCycle axis).now = 1000 := by
  decide

theorem test_witness_profile : (Trajectory.profile 10000 12000 500 300 300 0).restAt ≤ 6000000 := by decide

theorem test_profile_middle : (Trajectory.profile 10000 12000 500 300 300 0).heightAt 3000000 = 11083 := by decide

theorem test_witness_feedback : parseFeedback 0 (message 5) = some (feedbackAt 5 0) ∧ parseFeedback 0 [3] = none
    ∧ parseFeedback 0 [3, 0, 0, 0, 0, 24, 229] = none := by decide

theorem test_witness_release : unbraking.drive.linkOn = true ∧ parseFeedback unbraking.now (message 13) = some (feedbackAt 13 0)
    ∧ driveConditionBegins unbraking.drive.latest (feedbackAt 13 0) = false ∧ unbraking.stop.fullColumn = false
    ∧ unbraking.exe.motion = .unbraking ∧ unbraking.exe.segment = some segment ∧ unbraking.exe.setpoint = some 10000
    ∧ (feedbackAt 13 0).brake = some .released ∧ (feedbackAt 13 0).positionValid = true
    ∧ gap 10000 (feedbackAt 13 0).height ≤ unbraking.cfg.followLimit
    ∧ unbraking.cfg.softLow ≤ (feedbackAt 13 0).height + unbraking.cfg.followLimit
    ∧ (feedbackAt 13 0).height ≤ unbraking.cfg.softHigh + unbraking.cfg.followLimit := by decide

theorem test_feedback_starts : (after (.feedback (message 13)) unbraking).exe.motion = .moving := by decide

/-- SETTLING with the brake commanded. -/
def settling : State := { running .settling with exe := { (running .settling).exe with
  stage := .applying, purpose := some .release, brakeSince := some 0 } }

theorem test_witness_applied : settling.drive.linkOn = true ∧ parseFeedback settling.now (message 5) = some (feedbackAt 5 0)
    ∧ driveConditionBegins settling.drive.latest (feedbackAt 5 0) = false ∧ settling.stop.fullColumn = false
    ∧ settling.stop.mode.onBus = true ∧ settling.stop.duplicate = false ∧ settling.exe.motion = .settling
    ∧ settling.exe.stage = .applying ∧ settling.exe.purpose ≠ some .hold ∧ (feedbackAt 5 0).brake = some .applied
    ∧ (feedbackAt 5 0).positionValid = true ∧ settling.exe.setpoint = some 10000
    ∧ gap 10000 (feedbackAt 5 0).height ≤ settling.cfg.followLimit
    ∧ settling.cfg.softLow ≤ (feedbackAt 5 0).height + settling.cfg.followLimit
    ∧ (feedbackAt 5 0).height ≤ settling.cfg.softHigh + settling.cfg.followLimit := by decide

theorem test_feedback_applied : (after (.feedback (message 5)) settling).exe.awaiting = .release
    ∧ (after (.feedback (message 5)) settling).drive.torqueReq = false := by decide

/-- The loop has opened and the filter runs. -/
def loopOpened : State := { moving with drive := { moving.drive with loopRaw := false, loopSince := some 0 } }

/-- A slipping load: braked, with the measurement of 200 ms complete. -/
def slipping : State := { axis with drive := { axis.drive with slip := .measuring 200000 } }

theorem test_witness_stops : axis.cfg.role = .axis ∧ axis.stop.mode.onBus = true ∧ axis.missingDue = some 5000
    ∧ loopOpened.loopDue = some 1000 ∧ loopOpened.drive.loopClosed = true ∧ loopOpened.drive.loopRaw = false
    ∧ slipping.slipDue.isSome = true
    ∧ unbraking.brakeDue = some 300000 ∧ unbraking.exe.raised.brake = false
    ∧ moving.standstillLimit = some 7000000 ∧ moving.exe.raised.standstill = false := by decide

theorem test_feedbackMissing : (after .feedbackMissing moving).stop.mode = .stopped
    ∧ (after .feedbackMissing moving).drive.torqueReq = false := by decide
theorem test_loopOpening : (after .loopOpening loopOpened).stop.record.map (·.cause) = some .loop := by decide
theorem test_slippingBrake : (after .slippingBrake slipping).stop.record.map (·.cause) = some .brake := by decide
theorem test_brakeTimeLimit : (after .brakeTimeLimit unbraking).exe.motion = .settling := by decide
theorem test_standstillTimeout : (after .standstillTimeout moving).stop.record.map (·.cause) = some .following := by decide

/-- The local stop is pressed and its filter runs. -/
def pressed (s : State) : State := { s with drive := { s.drive with stopRaw := true, stopSince := some 0 } }

theorem test_witness_localStop : (pressed moving).stopInputDue = some 10000 ∧ (pressed moving).drive.stopAsserted = false
    ∧ (pressed moving).drive.stopRaw = true ∧ (pressed moving).stop.mode.onBus = true
    ∧ ((pressed moving).tx.safe.frames.any (·.origin == .localStop)) = false ∧ (pressed moving).cfg.role = .axis
    ∧ (pressed desk).stopInputDue = some 10000 ∧ (pressed desk).cfg.role = .desk
    ∧ (pressed State.reset).stop.mode.onBus = false ∧ (pressed State.reset).stopInputDue = some 10000 := by decide

theorem test_localStop : (after .localStop (pressed moving)).stop.mode = .stopped
    ∧ (after .localStop (pressed moving)).tx.safe.frames.length = 1 := by decide

/-- The first clause at rest with position valid; the second where the drive reports not ready. -/
theorem test_witness_goodFeedback : axis.drive.linkOn = true ∧ parseFeedback axis.now (message 5) = some (feedbackAt 5 0)
    ∧ driveConditionBegins axis.drive.latest (feedbackAt 5 0) = false ∧ axis.stop.fullColumn = false
    ∧ axis.exe.motion = .idle ∧ axis.exe.setpoint = none
    ∧ axis.cfg.softLow ≤ (feedbackAt 5 0).height + axis.cfg.followLimit
    ∧ (feedbackAt 5 0).height ≤ axis.cfg.softHigh + axis.cfg.followLimit
    ∧ parseFeedback axis.now (message 4) = some (feedbackAt 4 0) ∧ driveConditionBegins axis.drive.latest (feedbackAt 4 0) = true
    ∧ axis.stop.mode.running = true := by decide

theorem test_feedback_notReady : (after (.feedback (message 4)) axis).stop.mode = .stopped := by decide

theorem test_witness_inputs : axis.drive.loopRaw = true ∧ axis.drive.loopRaw ≠ false ∧ axis.drive.stopRaw ≠ true
    ∧ { loopOpened with drive := { loopOpened.drive with loopClosed := false, loopRaw := true } }.loopDue = some 1000
    ∧ loopOpened.loopDue = some 1000 ∧ loopOpened.drive.loopClosed = true
    ∧ { pressed axis with drive := { (pressed axis).drive with stopAsserted := true, stopRaw := false } }.stopInputDue = some 10000
    ∧ (pressed axis).drive.stopAsserted = false ∧ axis.stopInputDue = none := by decide

theorem test_loopInputChange : (after (.loopInputChange false) moving).tqenLine = false
    ∧ (after (.loopInputChange false) moving).drive.loopSince = some 0 := by decide
theorem test_localStopInputChange : (after (.localStopInputChange true) axis).drive.stopSince = some 0 := by decide

/-! ### Witnesses: the executor's timers -/

/-- The AXIS in DELAYING, with this segment. -/
def delaying (g : Segment) : State := { running .delaying with
  cue := { CueEngine.reset with queue := [{ head with segment := g }] }, claims := ClaimsEngine.reset
  exe := { (running .delaying).exe with segment := some g } }

/-- The segment with a delay of 3 ms and a gate on station 1 standing still, which has sent no STATUS. -/
def gatedSegment : Segment := { segment with delay := some 3, gate := some ⟨1, .still, none⟩ }

/-- The AXIS with no feedback. -/
def blind (s : State) : State := { s with drive := { s.drive with latest := none } }

theorem test_witness_delay : (delaying gatedSegment).exe.motion = .delaying ∧ (delaying gatedSegment).stop.mode = .active
    ∧ (delaying gatedSegment).delayDue = some 3000
    ∧ (gatedSegment.gate.map (delaying gatedSegment).gateSatisfied).getD true = false
    ∧ (segment.gate.map (delaying segment).gateSatisfied).getD true = true ∧ (delaying segment).claims.view = .sound
    ∧ (delaying segment).actualHeight = some 10000 ∧ (blind (delaying segment)).actualHeight = none
    ∧ (delaying segment).stop.duplicate = false := by decide

theorem test_delayExpiry : (after .delayExpiry (delaying segment)).exe.motion = .claiming
    ∧ (after .delayExpiry (delaying gatedSegment)).exe.motion = .gated
    ∧ (after .delayExpiry (delaying segment)).tx.space.places.length = 1 := by decide

/-- The AXIS in GATED or CLAIMING with its wait timer running; in CLAIMING with the CLAIM unsent, or sent. -/
def waiting (motion : Motion) (claimUnsent : Bool) : State := { running motion with
  exe := { (running motion).exe with waitSince := some 0 }
  tx := { Transmitter.reset with space := ⟨if claimUnsent then [⟨.claim, .executor, some [], false⟩] else [], []⟩ } }

theorem test_witness_wait : (waiting .gated false).waitDue = some 5000000 ∧ (waiting .gated false).cue.queue = [head]
    ∧ head.cancelling = false ∧ (waiting .gated false).stop.duplicate = false ∧ (waiting .gated false).stop.mode.onBus = true
    ∧ (waiting .claiming true).waitDue = some 5000000 ∧ (waiting .claiming true).hasUnsent .space (·.kind == .claim) = true
    ∧ (waiting .claiming false).hasUnsent .space (·.kind == .claim) = false := by decide

theorem test_waitExpired : (after .waitExpired (waiting .claiming false)).exe.awaiting = .withdraw
    ∧ (after .waitExpired (waiting .gated false)).exe.motion = .idle := by decide

theorem test_witness_timers : axis.loopDue = none ∧ axis.slipDue = none ∧ axis.brakeDue = none ∧ axis.standstillLimit = none
    ∧ { axis with drive := { axis.drive with missing := true } }.missingDue = none ∧ axis.exe.motion ≠ .delaying ∧ axis.waitDue = none ∧ axis.standstillDue = none
    ∧ axis.tripRestDue = none
    ∧ { unbraking with exe := { unbraking.exe with raised := ⟨false, false, false, false, true⟩ } }.brakeDue = some 300000
    ∧ { moving with exe := { moving.exe with raised := ⟨false, false, false, true, false⟩ } }.standstillLimit = some 7000000
    ∧ { desk with drive := axis.drive }.missingDue = some 5000
    ∧ { configuring axisCfg with drive := loopOpened.drive }.loopDue = some 1000
    ∧ (configuring axisCfg).stop.mode.onBus = false := by decide

/-- The AXIS in STOPPING with this purpose, at rest since 0. -/
def stopping (purpose : Purpose) (mode : Mode) : State := { running .stopping with
  stop := { (running .stopping).stop with mode := mode }
  exe := { (running .stopping).exe with purpose := some purpose, standSince := some 0, restSince := some 0 } }

/-- The AXIS after a trip. -/
def tripped : State := { running .settling with
  exe := { (running .settling).exe with stage := .tripped, purpose := some .release, standSince := some 0, restSince := some 0 }
  drive := { (running .settling).drive with torqueReq := false } }

theorem test_witness_standstill : moving.standstillDue = some 50000 ∧ (stopping .release .stopped).standstillDue = some 50000
    ∧ (stopping .hold .stopped).exe.purpose = some .hold ∧ (stopping .hold .stopped).standstillDue = some 50000
    ∧ (stopping .pause .halted).stop.mode ≠ .active ∧ (stopping .pause .halted).standstillDue = some 50000
    ∧ (stopping .pause .active).standstillDue = some 50000 ∧ (stopping .pause .active).exe.segment = some segment
    ∧ (stopping .pause .active).exe.setpoint = some 10000
    ∧ tripped.exe.motion = .settling ∧ tripped.exe.stage = .tripped ∧ tripped.stop.duplicate = false
    ∧ tripped.exe.purpose ≠ some .hold ∧ tripped.stop.mode.onBus = true ∧ tripped.standstillDue = some 50000
    ∧ tripped.tripRestDue = some 1000000 ∧ tripped.liveFeedback = some (feedbackAt 5 0)
    ∧ (blind tripped).liveFeedback = none := by decide

theorem test_standstill : (after .standstill moving).exe.motion = .settling
    ∧ (after .standstill (stopping .pause .active)).exe.motion = .moving := by decide
theorem test_tripRestTimeout : (after .tripRestTimeout tripped).exe.awaiting = .release := by decide

/-! ### Witnesses: the table's and the directory's timers -/

/-- The AXIS with its restate window running, in this mode and join stage. -/
def inWindow (mode : Mode) (stage : JoinStage) : State := { axis with
  stop := { axis.stop with mode := mode, joinStage := stage }
  claims := { ClaimsEngine.reset with
    table := [(0, ⟨1, .standing, ⟨9, 11⟩, ⟨0, 100⟩, false⟩)], view := .suspect, windowSince := some 0 } }

theorem test_witness_restate : axis.windowDue = none ∧ (inWindow .active .joined).windowDue = some 250000
    ∧ (inWindow .active .joined).stop.joinStage ≠ .window
    ∧ (inWindow .joining .window).windowDue = some 250000 ∧ (inWindow .joining .window).cfg.role = .axis
    ∧ (inWindow .joining .window).plantReady = true ∧ (blind (inWindow .joining .window)).plantReady = false
    ∧ (blind (inWindow .joining .window)).stop.mode = .joining ∧ (inWindow .stopped .window).stop.mode ≠ .joining := by decide

theorem test_restateWindowExpiry : (after .restateWindowExpiry (inWindow .joining .window)).stop.mode = .active
    ∧ (after .restateWindowExpiry (blind (inWindow .joining .window))).stop.mode = .stopped := by decide

/-- The AXIS with one frame in the REPORT queue. -/
def reporting (inFlight : Bool) : State :=
  { axis with tx := { Transmitter.reset with report := ⟨[⟨.status, .reporter, some [], inFlight⟩], []⟩ } }

theorem test_witness_directory : axis.entry (1 : BitVec 7).toNat = some peer ∧ peer.present = true
    ∧ axis.entry (2 : BitVec 7).toNat = none
    ∧ (after (.silence 1) axis).entry 1 = some { peer with present := false }
    ∧ State.reset.dir.reportDueAt = none ∧ axis.dir.reportDueAt = some 20000 ∧ axis.stop.mode.onBus = true
    ∧ axis.stop.duplicate = false ∧ axis.tx.report.waiting = [] ∧ axis.tx.report.places = []
    ∧ (reporting false).tx.report.places = [⟨.status, .reporter, some [], false⟩]
    ∧ (reporting true).tx.report.places = [⟨.status, .reporter, some [], true⟩] := by decide

theorem test_silence : (after (.silence 1) axis).now = 200000 ∧ (after (.silence 1) axis).counter .silence = 1 := by decide
theorem test_reportPeriod : (after .reportPeriod axis).tx.report.places.length = 1
    ∧ (after .reportPeriod axis).dir.reportDueAt = some 40000 := by decide

/-- The report-due mark set beside a STATUS made unsent again (assumption log 71). -/
def reportOwed : State := { reporting false with dir := { axis.dir with reportDue := true } }

theorem test_reportPeriod_owed : (after .reportPeriod reportOwed).counter .reportReplaced = 1
    ∧ (after .reportPeriod reportOwed).dir.reportDue = true ∧ (after .reportPeriod reportOwed).tx.report.places.length = 1 := by decide

/-! ### Witnesses: the Transmitter -/

/-- The AXIS with one frame of this kind at the head of its queue, in this transmit state. -/
def sending (k : Kind) (inFlight : Bool) (state : TxState) : State := { axis with
  tx := { (Transmitter.reset.setQueue k.cls ⟨[⟨k, .claims, some [3, 0, 0, 0], inFlight⟩], []⟩) with
    state := state, echoSince := match state with | .echoWait _ => some 0 | _ => none } }

theorem test_witness_busIdle : { axis with laneA := { axis.laneA with activeSince := some 0 } }.busIsIdle = false
    ∧ axis.busIsIdle = true ∧ axis.tx.deferral = 0 ∧ axis.tx.state = .idle
    ∧ { axis with tx := { axis.tx with deferral := 8 } }.tx.deferral ≠ 0 ∧ (sending .halt true (.sending .safe)).tx.state ≠ .idle
    ∧ (sending .halt false .idle).tx.safe.places.all (fun f => f.inFlight == false) = true
    ∧ (sending .halt false .idle).busIsIdle = true := by decide

theorem test_busIdle : (after .busIdle (sending .halt false .idle)).tx.state = .contest .safe := by decide

theorem test_witness_contest : (sending .restate false (.contest .space)).tx.state = .contest .space
    ∧ ((sending .restate false (.contest .space)).tx.queue .space).places = [⟨.restate, .claims, some [3, 0, 0, 0], false⟩]
    ∧ axis.tx.state ≠ .contest .safe := by decide

theorem test_contestWon : (after .contestWon (sending .restate false (.contest .space))).tx.state = .sending .space
    ∧ (after .contestWon (sending .announce false (.contest .space))).stop.fullColumn = false := by decide
theorem test_contestLost : (after .contestLost (sending .halt false (.contest .safe))).counter .contestsLost = 1 := by decide

/-- The reporter's STATUS in flight, its echo awaited, at a station with an entry for itself. -/
def statusLost : State := { sending .status true (.echoWait .report) with
  dir := ⟨[peer, ⟨5, axis.ownRecord, true, none, 0⟩], some 20000, false⟩
  tx := { (sending .status true (.echoWait .report)).tx with
    report := ⟨[⟨.status, .reporter, some axis.buildStatus.encode, true⟩], []⟩ } }

/-- A WITHDRAW in flight, its echo awaited. -/
def withdrawLost : State := { sending .withdraw true (.echoWait .space) with
  tx := { (sending .withdraw true (.echoWait .space)).tx with space := ⟨[⟨.withdraw, .executor, some [], true⟩], []⟩ } }

theorem test_witness_echoLost : axis.echoDue = none ∧ statusLost.echoDue = some (200, .report) ∧ statusLost.oneInFlight = true
    ∧ statusLost.inFlight .report = some ⟨.status, .reporter, some axis.buildStatus.encode, true⟩
    ∧ parseStatus axis.buildStatus.encode = some axis.buildStatus
    ∧ (statusLost.entry statusLost.number).isSome = true
    ∧ withdrawLost.echoDue = some (200, .space) ∧ withdrawLost.oneInFlight = true
    ∧ withdrawLost.inFlight .space = some ⟨.withdraw, .executor, some [], true⟩
    ∧ parseBody .withdraw withdrawLost.number [] ≠ none := by decide

theorem test_echoLost : (after .echoLost withdrawLost).counter .suspicion = 1 ∧ (after .echoLost withdrawLost).now = 200 := by
  decide

theorem test_witness_sent : (sending .halt true (.sending .safe)).tx.state = .sending .safe
    ∧ (sending .halt true (.sending .safe)).inFlight .safe = some ⟨.halt, .claims, some [3, 0, 0, 0], true⟩
    ∧ (sending .halt true (.sending .safe)).stop.duplicate = false ∧ axis.tx.state ≠ .sending .safe := by decide

theorem test_frameSent : (after .frameSent (sending .halt true (.sending .safe))).tx.expected = some .halt := by decide
theorem test_collision : (after .collision (sending .halt true (.sending .safe))).counter .busCollision = 1
    ∧ (after .collision (sending .halt true (.sending .safe))).tx.state = .idle := by decide

/-! ### Witnesses: lanes and the merger -/

/-- A frame of no body: the WITHDRAW of station 1. -/
def wire : List Bool := bitsTaken (frameBits 1 1 10 3 [])

/-- The copy a lane obtains from it. -/
def copied : Copy := ⟨some ⟨1, 1, 10, 3⟩, [], true, false⟩

theorem test_wire_received : receive false false wire = ⟨[], some copied, false⟩ ∧ copied.clean = true := by decide

/-- A one bit error in the header is corrected and recorded. -/
theorem test_wire_corrected : ((receive false false (flipAt 31 wire)).copy.bind (·.header)) = some ⟨1, 1, 10, 3⟩ := by decide

/-- The AXIS with both lanes active, receiving, lead established. -/
def receiving : State := { axis with
  laneA := { LaneReceiver.reset with recv := .lead, leadUp := true, activeSince := some 0 }
  laneB := { LaneReceiver.reset with recv := .lead, leadUp := true, activeSince := some 0 } }

/-- A part of an attempt whose lead stands, and one that has its copy. -/
def leading : LanePart := ⟨true, false, false, none⟩
def ended : LanePart := ⟨true, true, false, some copied⟩

/-- Lane A has its copy of the frame, and the window runs; lane B is still to come. -/
def oneCopy : State := { receiving with
  laneA := { receiving.laneA with recv := .trail, leadUp := false }
  merger := { Merger.reset with collecting := some ⟨true, true, ended, leading, some .a, some 0⟩ } }

/-- The attempt has been decided and its tail runs. -/
def tailing : State := { axis with
  merger := { Merger.reset with tail := some ⟨⟨true, true, ended, ended, some .a, some 0⟩, some copied, 0⟩ } }

theorem test_witness_lanes : (receiving.lane .a).activeSince ≠ none ∧ (axis.lane .a).activeSince = none
    ∧ axis.leadPossible .a = false ∧ (after (.laneActive .a) axis).leadPossible .a = true
    ∧ (after (.laneActive .a) axis).merger.collecting = none := by decide

theorem test_laneActive : ((after (.laneActive .a) axis).lane .a).recv = .lead := by decide
theorem test_leadEstablished : (after (.leadEstablished .b) (after (.laneActive .b) axis)).merger.collecting.isSome = true := by
  decide

theorem test_witness_receptions : (axis.lane .a).recv ≠ .lead ∧ (receiving.lane .a).recv = .lead
    ∧ (axis.lane .a).activeSince = none ∧ (receiving.lane .b).activeSince ≠ none ∧ axis.babbleDue .a = none
    ∧ (receiving.babbleDue .a).isSome = true := by decide

theorem test_laneIdle : ((after (.laneIdle .a wire) receiving).lane .a).activeSince = none := by decide
theorem test_babble : ((after (.babble .a []) receiving).lane .a).babble = true
    ∧ ((after (.babble .a []) receiving).lane .a).kindSet.getLsbD LaneKind.babble.number = true := by decide

/-- Identical, differing and missing copies; then the second copy of one frame. -/
theorem test_witness_twoLanes : ended.copy = some copied ∧ leading.copy = none ∧ oneCopy.stop.mode.onBus = true
    ∧ (oneCopy.lane .b).recv = .lead ∧ (oneCopy.lane .b).leadUp = true ∧ oneCopy.laneA.babble = false
    ∧ oneCopy.laneB.babble = false ∧ oneCopy.merger.collecting = some ⟨true, true, ended, leading, some .a, some 0⟩
    ∧ copied.clean = true ∧ copied.same copied = true ∧ oneCopy.merger.nextA = LanePart.empty
    ∧ oneCopy.merger.nextB = LanePart.empty ∧ copied.header = some ⟨1, 1, 10, 3⟩
    ∧ (⟨1, 1, 10, 3⟩ : Header).filed = some .withdraw ∧ oneCopy.lenient = false := by decide

theorem test_receptionEnd : (after (.receptionEnd .b wire) oneCopy).dec.inbox = [some ⟨.withdraw, 1, 3, []⟩] := by decide

theorem test_witness_merger : axis.skewDue = none ∧ axis.merger.tail = none ∧ (oneCopy.skewDue).isSome = true
    ∧ oneCopy.merger.nextA = LanePart.empty ∧ (oneCopy.outcome ⟨true, true, ended, leading, some .a, some 0⟩).accepted = some copied
    ∧ tailing.merger.tail.isSome = true := by decide

theorem test_skewWindowExpiry : (after .skewWindowExpiry oneCopy).counter .accepted = 1
    ∧ (after .skewWindowExpiry oneCopy).now = 4 := by decide
theorem test_tailExpiry : (after .tailExpiry tailing).merger.tail = none := by decide

theorem test_witness_header : (List.replicate 22 false).length = 22 ∧ 0 < 29 ∧ 29 < 30 := by decide

/-- An empty body and one of 96 bytes are admitted. -/
theorem test_witness_frameBits : 127 < 128 ∧ 15 < 16 ∧ 3 < 4 ∧ (List.replicate 96 (0 : Byte)).length ≤ 96 := by decide

theorem test_witness_parsed : parseBody .trim 1 (Content.trim 1 1 ⟨0, 100⟩).encode = some (.trim 1 1 ⟨0, 100⟩) := by decide

/-! ### Witnesses: frames from peers -/

/-- A body that selects every station, cause OPERATOR. -/
def toAll : List Byte := [3, 0, 0, 0]

theorem test_witness_frames : State.reset.stop.mode.onBus = false ∧ stationInRange (0 : BitVec 7).toNat = false
    ∧ stationInRange (100 : BitVec 7).toNat = false ∧ axis.hears 1 = true ∧ axis.hears 99 = true
    ∧ parseBody .halt 1 [] = none := by decide

theorem test_frame_malformed : (after (.halt 1 3 []) axis).dec.lastCode = .misfiled
    ∧ (after (.halt 1 3 []) axis).counter .malformed = 1 := by decide

theorem test_witness_halt : axis.hears 7 = true ∧ parseBody .halt 7 toAll = some (.safe .all .operator)
    ∧ axis.selects .all = true ∧ axis.selects (.station 6) = false ∧ desk.cfg.role = .desk ∧ axis.stop.mode = .active
    ∧ (joined axisCfg .halted).stop.mode ≠ .active ∧ axis.exe.motion ≠ .moving ∧ unbraking.exe.motion = .unbraking
    ∧ moving.exe.motion = .moving ∧ moving.exe.segment = some segment ∧ moving.exe.setpoint = some 10000
    ∧ moving.exe.trajectory = some (.profile 10000 12000 500 300 300 0) ∧ moving.hears 7 = true := by decide

theorem test_halt : (after (.halt 7 3 toAll) moving).stop.mode = .halted ∧ (after (.halt 7 3 toAll) moving).exe.motion = .stopping := by
  decide

theorem test_witness_stop : parseBody .stop 1 toAll = some (.safe .all .operator) ∧ axis.hears 1 = true
    ∧ axis.selects .all = true ∧ moving.cue.queue = [head] ∧ head.started = true ∧ head.cancelling = false
    ∧ settling.exe.motion = .settling ∧ settling.stop.duplicate = false ∧ (running .paused).exe.motion = .paused
    ∧ (waiting .gated false).exe.motion = .gated ∧ (joined axisCfg .stopped).stop.mode = .stopped := by decide

theorem test_stop : (after (.stop 1 3 toAll) moving).stop.mode = .stopped
    ∧ (after (.stop 1 3 toAll) unbraking).exe.usePreMove = true := by decide

/-- The DESK peer is known, the AXIS peer is not allowed to clear. -/
theorem test_witness_clear : axis.hears 7 = true ∧ parseBody .clear 7 toAll = some (.safe .all .operator)
    ∧ axis.entry (9 : BitVec 7).toNat = none ∧ axis.hears 9 = true ∧ axis.entry (1 : BitVec 7).toNat = some peer
    ∧ peer.record.role = .axis ∧ axis.entry (7 : BitVec 7).toNat = some deskPeer ∧ deskPeer.record.role = .desk
    ∧ axis.cfg.clearRankLimit < (2 : BitVec 2).toNat ∧ (1 : BitVec 2).toNat ≤ axis.cfg.clearRankLimit
    ∧ (joined axisCfg .stopped).drive.loopClosed = true ∧ (joined axisCfg .stopped).plantReady = true
    ∧ (joined axisCfg .stopped).stop.duplicate = false ∧ (joined axisCfg .stopped).stop.joinStage = .joined
    ∧ (blind (joined axisCfg .stopped)).plantReady = false ∧ (running .paused).exe.motion = .paused
    ∧ (stopping .pause .halted).stop.mode = .halted ∧ (stopping .pause .halted).exe.motion ≠ .paused := by decide

theorem test_clear : (after (.clear 7 1 toAll) (joined axisCfg .stopped)).stop.mode = .active
    ∧ (after (.clear 7 2 toAll) (joined axisCfg .stopped)).dec.lastCode = .authority := by decide

/-- An ANNOUNCE of an AXIS with a STANDING claim. -/
def announcement : Content := .announce peer.record [⟨.standing, ⟨9, 11⟩, ⟨0, 100⟩⟩]

/-- An ANNOUNCE of a DESK that lists a claim. -/
def deskAnnouncement : Content := .announce deskPeer.record [⟨.standing, ⟨9, 11⟩, ⟨0, 100⟩⟩]

/-- A directory of 71 peers. -/
def full : State := { axis with dir := ⟨(List.range 71).map fun i => { peer with number := i + 20 }, none, false⟩ }

theorem test_witness_records : axis.hears 1 = true ∧ parseBody .announce 1 announcement.encode = some announcement
    ∧ parseBody .restate 1 announcement.encode = some announcement ∧ axis.canEnter 1 = true ∧ axis.entry 1 = some peer
    ∧ axis.entry 2 = none ∧ axis.canEnter 2 = true ∧ Table.hasRoom axis.claims.table (ownedBy 1) 1 = true
    ∧ parseBody .announce 7 deskAnnouncement.encode = some deskAnnouncement ∧ full.canEnter 1 = false ∧ full.hears 1 = true
    ∧ axis.stop.duplicate = false := by decide

theorem test_announce : (after (.announce 2 3 announcement.encode) axis).dir.entries.length = 3
    ∧ (after (.announce 2 3 announcement.encode) axis).hasQueued .restate = true := by decide
theorem test_restate : (after (.restate 1 3 announcement.encode) axis).claims.table.length = 1 := by decide

theorem test_witness_request : axis.hears 1 = true ∧ axis.entry (1 : BitVec 7).toNat = some peer
    ∧ (inWindow .active .joined).claims.view = .suspect ∧ axis.claims.view ≠ .suspect
    ∧ parseBody .restateRequest 1 [] ≠ none := by decide

theorem test_restateRequest : (after (.restateRequest 1 3 []) (inWindow .active .joined)).claims.windowSince = some 0
    ∧ (after (.restateRequest 1 3 []) axis).hasQueued .restate = true := by decide

/-- A CLAIM of station 1 above the own sweep, its TRIM and its RELEASE. -/
def claimBody : List Byte := (Content.claim ⟨9, 11⟩ ⟨15000, 16000⟩ 4 1 1).encode
def trimBody (low : Int) : List Byte := (Content.trim 1 1 ⟨low, 16000⟩).encode
def releaseBody : List Byte := (Content.release ⟨9, 11⟩ ⟨15500, 16000⟩).encode

/-- The AXIS with station 1's SWEEP in the table beside its own. -/
def swept : State := after (.claim 1 3 claimBody) moving

/-- The AXIS with a table of 128 claims. -/
def crowded : State := { axis with claims := { ClaimsEngine.reset with
  table := (List.range 128).map fun i => (i, ⟨i + 200, .standing, ⟨0, 1⟩, ⟨0, 1⟩, true⟩) } }

theorem test_witness_reservations : moving.hears 1 = true ∧ moving.entry (1 : BitVec 7).toNat = some peer
    ∧ peer.record.role = .axis ∧ parseBody .claim 1 claimBody = some (.claim ⟨9, 11⟩ ⟨15000, 16000⟩ 4 1 1)
    ∧ Table.hasRoom moving.claims.table (sweepOwned 1) 1 = true
    ∧ parseBody .release 1 releaseBody = some (.release ⟨9, 11⟩ ⟨15500, 16000⟩)
    ∧ Table.hasRoom moving.claims.table (ownedBy 1) 1 = true ∧ Table.sweepOf moving.claims.table 1 = none := by decide

theorem test_witness_trims : swept.hears 1 = true
    ∧ Table.sweepOf swept.claims.table 1 = some ⟨1, .sweep .held 4 1 1, ⟨9, 11⟩, ⟨15000, 16000⟩, true⟩
    ∧ parseBody .trim 1 (trimBody 15500) = some (.trim 1 1 ⟨15500, 16000⟩)
    ∧ parseBody .trim 1 (trimBody 15000) = some (.trim 1 1 ⟨15000, 16000⟩)
    ∧ parseBody .trim 1 (trimBody 14999) = some (.trim 1 1 ⟨14999, 16000⟩)
    ∧ (⟨15500, 16000⟩ : Band).inside ⟨15000, 16000⟩ = true ∧ (⟨14999, 16000⟩ : Band).inside ⟨15000, 16000⟩ = false := by decide

theorem test_claim : swept.claims.table.length = 2 := by decide
theorem test_trim : (after (.trim 1 3 (trimBody 14999)) swept).counter .trimRejected = 1
    ∧ (Table.sweepOf (after (.trim 1 3 (trimBody 15500)) swept).claims.table 1).map (·.vertical) = some ⟨15500, 16000⟩ := by decide
theorem test_release : Table.standingOf (after (.release 1 3 releaseBody) swept).claims.table 1
    = some ⟨1, .standing, ⟨9, 11⟩, ⟨15500, 16000⟩, true⟩ := by decide
theorem test_withdraw : Table.sweepOf (after (.withdraw 1 3 []) swept).claims.table 1 = none := by decide

set_option maxRecDepth 4000 in
theorem test_witness_refused : axis.hears 7 = true ∧ axis.entry (7 : BitVec 7).toNat = some deskPeer ∧ deskPeer.record.role = .desk
    ∧ parseBody .withdraw 7 [] ≠ none ∧ axis.entry (9 : BitVec 7).toNat = none ∧ parseBody .withdraw 9 [] ≠ none
    ∧ axis.stop.mode ≠ .joining ∧ axis.claims.view = .sound ∧ crowded.hears 1 = true
    ∧ Table.hasRoom crowded.claims.table (sweepOwned 1) 1 = false ∧ Table.hasRoom crowded.claims.table (ownedBy 1) 1 = false := by
  decide

set_option maxRecDepth 4000 in
theorem test_claim_tableFull : (after (.claim 1 3 claimBody) crowded).claims.view = .blind := by decide

/-- A STATUS of station 1 with its load beside the own one. -/
def near : StatusReport := ⟨some 10000, 0, .active, .idle, none, 0, .none, .sound, .none, none, .good, .good, .notParked⟩

theorem test_witness_status : axis.hears 1 = true ∧ parseBody .status 1 near.encode = some (.status near)
    ∧ axis.entry (1 : BitVec 7).toNat = some peer ∧ axis.cfg.role = .axis ∧ near.height = some 10000
    ∧ axis.actualHeight = some 10000 ∧ axis.areCompanions axis.number 1 = false
    ∧ peer.record.depthBand.intersects axis.ownDepth = true
    ∧ (peer.record.occupied 10000).intersects (axis.ownOccupied 10000) = true ∧ desk.cfg.role = .desk ∧ desk.hears 1 = true := by
  decide

theorem test_status : (after (.status 1 3 near.encode) axis).stop.record.map (·.cause) = some .proximity := by decide

/-! ### Witnesses: CUE frames -/

/-- A LOAD of cue N for every station, with one segment. -/
def loadBody (cue : Nat) (count : Nat) : List Byte :=
  (Content.load .all cue ((List.range count).map fun i => ⟨i + 1, 12000, 500, 300, 300, 4, none, none, none, false⟩)).encode

/-- A GO, RESUME or CANCEL of cue N for every station. -/
def cueBody (cue : Nat) : List Byte := (Content.cue .all cue).encode

/-- The AXIS with cues 1 and 2 loaded, unarmed, in this freeze. -/
def loaded (freeze : Freeze) : State := { axis with cue := { CueEngine.reset with
  queue := [⟨segment, 1, false, false, false, false⟩, ⟨{ segment with cue := 2 }, 1, false, false, false, false⟩]
  freeze := freeze } }

theorem test_witness_admission : axis.hears 7 = true ∧ (parseBody .load 7 (loadBody 1 1)).isSome = true
    ∧ parseBody .go 7 (cueBody 1) = some (.cue .all 1) ∧ axis.holdsCue 1 = false ∧ moving.holdsCue 1 = true
    ∧ moving.selects .all = true ∧ axis.hears 9 = true ∧ axis.entry (9 : BitVec 7).toNat = none
    ∧ axis.entry (1 : BitVec 7).toNat = some peer ∧ axis.entry (7 : BitVec 7).toNat = some deskPeer
    ∧ { axisCfg with image := axisCfg.image.set 35 1 }.cueRankLimit < (2 : BitVec 2).toNat
    ∧ (3 : BitVec 2).toNat ≤ axis.cfg.cueRankLimit
    ∧ (after .parkRequest axis).cue.parked ≠ .notParked ∧ Selector.all.isStation = false
    ∧ (joined axisCfg .joining).modeAdmits .go = false := by decide

theorem test_witness_load : axis.modeAdmits .load = true ∧ axis.holdsCue 1 = false ∧ axis.cue.parked = .notParked
    ∧ axis.cue.queue.length + 4 ≤ 4 ∧ 4 < (loaded .none).cue.queue.length + 3 ∧ (loaded .none).holdsCue 3 = false
    ∧ moving.cueStarted 1 = true ∧ (loaded .none).cueStarted 1 = false
    ∧ Selector.all.specificity ≤ 1 ∧ Selector.all.specificity < (⟨segment, 4, false, false, false, false⟩ : QueueEntry).specificity
    ∧ (parseBody .load 7 (loadBody 3 3)).isSome = true := by decide

theorem test_load : (after (.load 7 3 (loadBody 1 1)) axis).cue.queue.length = 1
    ∧ (after (.load 7 3 (loadBody 3 3)) (loaded .none)).dec.lastCode = .full := by decide

theorem test_witness_go : moving.headCue = some 1 ∧ moving.cueStarted 1 = true ∧ (loaded .none).headCue ≠ some 2
    ∧ (loaded .none).holdsCue 2 = true ∧ (loaded .none).headCue = some 1 ∧ (loaded .none).cueStarted 1 = false
    ∧ (loaded .none).frozen = false ∧ (loaded .stop).frozen = true ∧ segment.isVoid = false ∧ segment.delay = none
    ∧ axis.modeAdmits .go = true := by decide

theorem test_go : (after (.go 7 3 (cueBody 1)) (loaded .none)).exe.motion = .claiming
    ∧ (after (.go 7 3 (cueBody 2)) (loaded .none)).exe.motion = .idle := by decide

theorem test_witness_resume : (loaded .stop).stop.mode = .active ∧ (loaded .stop).frozen = true ∧ (loaded .stop).headCue = some 1
    ∧ (loaded .stop).exe.motion = .idle ∧ (loaded .stop).headCancelling = false ∧ (loaded .none).frozen = false
    ∧ parseBody .resume 7 (cueBody 1) = some (.cue .all 1) := by decide

theorem test_resume : (after (.resume 7 3 (cueBody 1)) (loaded .stop)).exe.motion = .claiming
    ∧ (after (.resume 7 3 (cueBody 1)) (loaded .none)).counter .cueIgnored = 1 := by decide

theorem test_witness_cancel : (loaded .none).cue.queue.any (fun x => x.segment.cue == 1 && x.cancelling) = false
    ∧ (loaded .none).cue.parked ≠ .pending ∧ (loaded .none).headCue ≠ some 2 ∧ (loaded .none).cueStarted 2 = false
    ∧ (loaded .none).cue.queue.all (fun x => x.armed == false) = true ∧ moving.cueStarted 1 = true ∧ moving.exe.motion ≠ .idle
    ∧ { moving with cue := { moving.cue with queue := [{ head with cancelling := true }] } }.cue.queue.any
        (fun x => x.segment.cue == 1 && x.cancelling) = true
    ∧ parseBody .cancel 7 (cueBody 1) = some (.cue .all 1) := by decide

theorem test_cancel : (after (.cancel 7 3 (cueBody 1)) moving).exe.motion = .stopping
    ∧ (after (.cancel 7 3 (cueBody 1)) (loaded .none)).cue.queue.length = 1 := by decide

/-! ### Witnesses: the relations, the pass and the invariants -/

theorem test_witness_bands : (⟨0, 10⟩ : Band).lo ≤ 10 ∧ (⟨10, 20⟩ : Band).lo ≤ 20 ∧ (⟨0, 10⟩ : Band).hi = (⟨10, 20⟩ : Band).lo
    ∧ (⟨0, 10⟩ : Band).intersects ⟨10, 20⟩ = true ∧ (⟨3, 17⟩ : Band).covered ⟨0, 10⟩ ⟨11, 20⟩ = true
    ∧ (⟨3, 17⟩ : Band).covered ⟨0, 10⟩ ⟨12, 20⟩ = false := by decide

/-- Two WAITING sweeps of stations 1 and 2 over the same space: the lower number ranks above. -/
def rivals : Table := [(0, ⟨2, .sweep .waiting 4 1 1, ⟨9, 11⟩, ⟨0, 100⟩, true⟩), (1, ⟨1, .sweep .waiting 4 1 1, ⟨9, 11⟩, ⟨50, 200⟩, true⟩)]

theorem test_witness_rank : (⟨1, .sweep .waiting 4 1 1, ⟨9, 11⟩, ⟨50, 200⟩, true⟩ : Claim).ranksAbove
      ⟨2, .sweep .waiting 4 1 1, ⟨9, 11⟩, ⟨0, 100⟩, true⟩ = true
    ∧ (rivals.waitingByRank.map (·.1)) = [1, 0]
    ∧ parseBody .claim 1 claimBody = some (.claim ⟨9, 11⟩ ⟨15000, 16000⟩ 4 1 1) := by decide

theorem test_witness_pass : Table.indicesFrom 0 rivals = true
    ∧ (Table.pass axis.conflict rivals).map (fun x => x.2.isHeld) = [false, true] := by decide

/-- A step from reset, and one that moves the setpoint. -/
theorem test_witness_invariants : State.reset.pending = [] ∧ State.reset.quiet = true ∧ State.reset.tableOk = true
    ∧ State.reset.queuesOk = true ∧ State.reset.oneInFlight = true ∧ State.reset.executorOk = true ∧ State.reset.driveOk = true
    ∧ State.reset.flagsOk = true ∧ swept.tableOk = true ∧ statusLost.oneInFlight = true ∧ statusLost.queuesOk = true
    ∧ settling.driveOk = true ∧ tripped.driveOk = true ∧ (running .paused).driveOk = true
    ∧ axis.directoryOk = true := by decide

/-- The moving AXIS at 100 ms, its next link cycle due: its setpoint moves. -/
def movingOn : State := { moving with now := 100000, drive := { moving.drive with nextLink := 100000 } }

theorem test_witness_setpoint : movingOn.executorOk = true ∧ (after .linkCycle movingOn).exe.setpoint = some 10001
    ∧ movingOn.exe.setpoint ≠ some 10001 ∧ movingOn.exe.setpoint ≠ none
    ∧ (swept.exe.setpoint = some 10000) := by decide

/-- The first setpoint of a move: the own SWEEP's echo makes it HELD in CLAIMING. -/
def claiming : State := { running .claiming with
  claims := ClaimsEngine.reset
  tx := { (sending .claim true (.echoWait .space)).tx with expected := some .claim, space :=
    ⟨[⟨.claim, .executor, some (Content.claim ⟨9, 11⟩ ⟨8000, 14000⟩ 4 1 1).encode, true⟩], []⟩ } }

theorem test_claim_echo_unbrakes : (after (.claim 5 3 (Content.claim ⟨9, 11⟩ ⟨8000, 14000⟩ 4 1 1).encode) claiming).exe.motion
      = .unbraking
    ∧ (after (.claim 5 3 (Content.claim ⟨9, 11⟩ ⟨8000, 14000⟩ 4 1 1).encode) claiming).exe.setpoint = some 10000
    ∧ claiming.executorOk = true ∧ claiming.exe.setpoint = none ∧ claiming.exe.motion.restful = true := by decide

/-- One own frame in flight, its echo expected, at this state. -/
def echoing (s : State) (k : Kind) (o : Origin) (body : List Byte) : State := { s with
  tx := { (Transmitter.reset.setQueue k.cls ⟨[⟨k, o, some body, true⟩], []⟩) with
    state := .echoWait k.cls, expected := some k, echoSince := some 0 } }

/-- The executor awaits the echo of its RELEASE. -/
def releasing : State := echoing { settling with
    exe := { settling.exe with awaiting := .release, stage := .running }, drive := { settling.drive with torqueReq := false } }
  .release .executor (Content.release ⟨9, 11⟩ ⟨8900, 10600⟩).encode

/-- The own frames: no echo expected, and the expected CLAIM, RELEASE, ANNOUNCE and STATUS. -/
theorem test_witness_own : axis.stop.mode.onBus = true ∧ (5 : BitVec 7).toNat = axis.number
    ∧ stationInRange (5 : BitVec 7).toNat = true ∧ axis.expectedEcho .halt = none
    ∧ (claiming.expectedEcho .claim).isSome = true
    ∧ Table.hasRoom claiming.claims.table (sweepOwned 5) 1 = true ∧ claiming.exe.awaiting = .nothing
    ∧ claiming.exe.startHeight = some 10000 ∧ 10000 ≠ segment.target
    ∧ Table.heldConflicts claiming.conflict [(0, ownSweep)] 5 = []
    ∧ (releasing.expectedEcho .release).map (·.2.origin) = some .executor ∧ releasing.cue.queue = [head]
    ∧ ((echoing axis .announce .joining announcement.encode).expectedEcho .announce).isSome = true
    ∧ ((echoing statusLost .status .reporter axis.buildStatus.encode).expectedEcho .status).isSome = true := by decide

theorem test_own_duplicate : (after (.halt 5 3 toAll) axis).stop.duplicate = true
    ∧ (after (.halt 5 3 toAll) axis).stop.mode = .stopped := by decide
theorem test_own_release : (after (.release 5 3 []) releasing).exe.motion = .idle
    ∧ (after (.release 5 3 []) releasing).cue.queue = [] := by decide
theorem test_own_announce : (after (.announce 5 3 []) (echoing axis .announce .joining announcement.encode)).stop.joinStage = .window := by
  decide

theorem test_interruptEnablesWrite : (after (.interruptEnablesWrite 0x4A 0x01) axis).port.enables = 1
    ∧ (after (.interruptEnablesWrite 0x4A 0x01) { axis with port := { axis.port with flags := 1 } }).irqnLow = true := by decide

/-! ### Changed meanings: the record of a DESK, missing feedback, exact speeds, kept crossings, lanes -/

/-- A DESK follows missing feedback and stops nothing. -/
theorem test_feedbackMissing_desk : (after .feedbackMissing desk).drive.missing = true
    ∧ (after .feedbackMissing desk).counter .feedbackMissing = 1 ∧ (after .feedbackMissing desk).stop = desk.stop := by decide

/-- The configuring station with a Stop Record kept over a pin reset. -/
def recorded (cfg : ConfigStore) : State := { configuring cfg with
  stop := { StopController.reset with record := some (axis.episode .loop none) } }

theorem test_close_desk_record : (after .close (recorded deskCfg)).stop.record = none
    ∧ (after .close (recorded axisCfg)).stop.record = some (axis.episode .loop none) := by decide

/-- MOVING at 100 ms, 30 mm/s fast. -/
def moving100 : State := { moving with now := 100000 }

theorem test_halt_exact : (after (.halt 7 3 toAll) moving100).exe.trajectory
    = some (.deceleration 10000 12000 (Speed.ratio 30000000 1) 1000 100000) := by decide

theorem test_deceleration : (Trajectory.deceleration 10000 12000 (Speed.ratio 30000000 1) 1000 0).heightAt 20000 = 10000
    ∧ (Trajectory.deceleration 10000 12000 (Speed.ratio 300000000 1) 1000 0).heightAt 200000 = 10040
    ∧ (Trajectory.deceleration 10000 12000 (Speed.ratio 300000000 1) 1000 0).restAt = 300000
    ∧ (Trajectory.deceleration 10000 10010 (Speed.ratio 300000000 1) 1000 0).restAt = 35425 := by decide

/-- The AXIS in MOVING on a segment that asks for trims, with these counts. -/
def trimming (count reached : Nat) : State := { moving with
  exe := { moving.exe with
    segment := some { segment with trim := true }, trimCount := count, trimReached := reached }
  cue := { CueEngine.reset with queue := [{ head with segment := { segment with trim := true } }] } }

theorem test_trim_kept : (after (.feedback (message 13)) (trimming 0 1)).exe.trimCount = 1
    ∧ (after (.feedback (message 13)) (trimming 0 1)).tx.space.places.length = 1
    ∧ (after (.feedback (message 13)) (trimming 1 1)).tx.space.places = [] := by decide

theorem test_laneActive_idle : ((after (.laneActive .a) { axis with laneA := { LaneReceiver.reset with activeSince := some 7 } }).lane .a)
    = { LaneReceiver.reset with activeSince := some 7, recv := .lead } := by decide

/-- Lane B has turned OFF while its attempt collects. -/
def turnedOff : State := { oneCopy with laneB := { LaneReceiver.reset with health := .off } }

theorem test_missing_off : (after .skewWindowExpiry turnedOff).laneB.kindSet = 0
    ∧ (after .skewWindowExpiry turnedOff).counter .accepted = 1
    ∧ (after .skewWindowExpiry oneCopy).laneB.kindSet = 0x200 := by decide

/-! ### Witnesses: the window -/

theorem test_witness_windowBytes : axis.cfg.fault = none ∧ (after .close State.reset).cfg.fault = some (1, .unwritten) ∧ 1 < 27
    ∧ (blind axis).actualHeight = none ∧ axis.actualHeight = some 10000 ∧ 10000 ≤ 40000
    ∧ axis.merger.snapshot = none ∧ axis.dec.lastCue = none
    ∧ (after .skewWindowExpiry oneCopy).merger.snapshot = some ⟨.missingOnB, true, true, true, false, some 1⟩
    ∧ (after (.go 9 3 (cueBody 1)) moving).dec.lastCue = some 1 := by decide

/-- The last byte before and the first after the locations that a read clears, and a command location. -/
theorem test_witness_transaction : (4 : Byte) ≠ 2 ∧ (4 : Byte) ≠ 3 ∧ (47 : Byte).toNat < 48 ∧ ownRowLocation 0xE0 = false
    ∧ ownRowCommand 0xE0 1 = false ∧ (0x47 : Byte).toNat ≠ 0x48 ∧ (0x5F : Byte).toNat < 0x60 ∧ 0x63 < (0x64 : Byte).toNat := by decide

theorem test_transaction : (axis.transaction [3, 0x41, 0, 0]).2 = [3, 0] ∧ (axis.transaction [2, 0x4A, 1, 2]).1.port.enables = 0x0201
    ∧ (axis.transaction [9, 0x41, 0]).2 = [0] := by decide

/-! ### Witnesses: a feedback while the executor moves -/

/-- What every clause asks of the feedback at 10,000 mm. -/
theorem test_witness_motion : (trimming 0 1).drive.linkOn = true
    ∧ parseFeedback (trimming 0 1).now (message 13) = some (feedbackAt 13 0)
    ∧ driveConditionBegins (trimming 0 1).drive.latest (feedbackAt 13 0) = false ∧ (trimming 0 1).stop.fullColumn = false
    ∧ (trimming 0 1).exe.motion = .moving ∧ (trimming 0 1).exe.setpoint = some 10000
    ∧ (trimming 0 1).exe.startHeight = some 10000 ∧ (trimming 0 1).exe.segment = some { segment with trim := true }
    ∧ (trimming 0 1).cfg.trimStep ≠ 0 ∧ (trimming 0 1).exe.restSince = some 6000000 ∧ (trimming 0 1).now < 6000000
    ∧ gap 10000 (feedbackAt 13 0).height ≤ (trimming 0 1).cfg.followLimit := by decide

/-- A TRIM due, not due, with four frames in the SPACE queue, and at rest with slow speed for 49,999 µs and for 50,000 µs. -/
def trimFull : State := { trimming 0 1 with tx := { Transmitter.reset with
  space := ⟨List.replicate 4 ⟨.restate, .claims, some [], false⟩, []⟩ } }
def atTarget (since : Nat) : State := { moving with
  now := since + 6000000
  exe := { moving.exe with restSince := some 6000000, standSince := some 6000000 } }
def fast : List Byte := withCheck [3, 0x27, 0x10, 0, 5, 13]

theorem test_witness_trim : (trimming 0 1).exe.trimCount < max (trimming 0 1).exe.trimReached 0 ∧ ¬(trimming 1 1).exe.trimCount < 1
    ∧ (trimming 0 1).tx.space.places.length < 4 ∧ 4 ≤ trimFull.tx.space.places.length
    ∧ (trimming 0 1).stop.mode.onBus = true ∧ (trimming 0 1).stop.duplicate = false
    ∧ segment.trim = false ∧ (atTarget 0).exe.restSince = some 6000000
    ∧ (atTarget 49999).now < (atTarget 49999).exe.standSince.getD 0 + 50000
    ∧ (atTarget 50000).exe.standSince.getD 0 + 50000 ≤ (atTarget 50000).now
    ∧ (parseFeedback 0 fast).map (fun f => f.speed.toInt.natAbs) = some 5 ∧ (feedbackAt 13 0).speed.toInt.natAbs < 5 := by decide

theorem test_feedback_motion : (after (.feedback (message 13)) trimFull).counter .trimDropped = 1
    ∧ (after (.feedback (message 13)) (atTarget 50000)).exe.motion = .settling
    ∧ (after (.feedback (message 13)) (atTarget 49999)).exe.motion = .moving
    ∧ (after (.feedback fast) (atTarget 50000)).exe.standSince = none := by decide

/-- The setpoint lies 51 mm off; the load lies below the soft limit; the position is not valid; each already raised as well. -/
def follows51 (raised : RaisedMarks) : State := { moving with exe := { moving.exe with setpoint := some 10051, raised := raised } }
def lowMessage : List Byte := withCheck [3, 0x07, 0x9D, 0, 0, 5]
def invalidMessage : List Byte := withCheck [3, 0x27, 0x10, 0, 0, 9]

theorem test_witness_conditions : (follows51 ⟨false, false, false, false, false⟩).exe.motion.driven = true
    ∧ (follows51 ⟨false, false, false, false, false⟩).cfg.followLimit < gap 10051 10000
    ∧ axis.cfg.role = .axis ∧ axis.stop.mode.onBus = true
    ∧ (parseFeedback 0 lowMessage).map (fun f => (f.height, f.positionValid, f.brake)) = some (1949, true, some .applied)
    ∧ ¬axis.cfg.softLow ≤ 1949 + axis.cfg.followLimit ∧ axis.exe.setpoint = none ∧ axis.exe.raised.limit = false
    ∧ axis.stop.mode ≠ .joining ∧ (joined axisCfg .joining).stop.mode = .joining
    ∧ (parseFeedback 0 invalidMessage).map (fun f => (f.positionValid, f.brake)) = some (false, some .released)
    ∧ moving.exe.raised.position = false ∧ (feedbackAt 13 0).brake ≠ some .applied ∧ moving.exe.purpose ≠ some .hold := by decide

theorem test_conditions : (after (.feedback (message 13)) (follows51 ⟨false, false, false, false, false⟩)).stop.record.map (·.cause)
      = some .following
    ∧ (after (.feedback (message 13)) (follows51 ⟨true, false, false, false, false⟩)).stop.mode = .active
    ∧ (after (.feedback lowMessage) axis).stop.record.map (·.cause) = some .limit
    ∧ (after (.feedback lowMessage) (joined axisCfg .joining)).stop.mode = .joining
    ∧ (after (.feedback invalidMessage) moving).stop.record.map (·.cause) = some .drive := by decide

/-- A pause that applies its brake, in this mode; a station whose ANNOUNCE claimed the full column. -/
def pausing (mode : Mode) : State := { stopping .pause mode with exe := { (stopping .pause mode).exe with stage := .applying } }
def column : State := { axis with stop := { axis.stop with fullColumn := true } }

theorem test_witness_pause : (pausing .halted).exe.motion = .stopping ∧ (pausing .halted).exe.stage = .applying
    ∧ (pausing .halted).stop.mode ≠ .active ∧ (pausing .active).stop.mode = .active ∧ (pausing .halted).drive.linkOn = true
    ∧ (pausing .halted).exe.setpoint = some 10000 ∧ (feedbackAt 5 0).brake = some .applied
    ∧ column.stop.fullColumn = true ∧ column.exe.motion = .idle ∧ column.exe.setpoint = none ∧ column.stop.duplicate = false := by decide

theorem test_pause : (after (.feedback (message 5)) (pausing .halted)).exe.motion = .paused
    ∧ (after (.feedback (message 5)) (pausing .active)).exe.motion = .unbraking
    ∧ (after (.feedback (message 5)) column).stop.fullColumn = false
    ∧ (after (.feedback (message 5)) column).hasQueued .release = true
    ∧ (after (.feedback (message 1)) column).stop.fullColumn = true := by decide

/-! ### Witnesses: leads, lane health and the snapshot -/

/-- An attempt collects with these parts, its window open or not; lane A can establish a lead. -/
def collecting (p q : LanePart) (window : Option Nat) : State := { receiving with
  laneA := { receiving.laneA with leadUp := false }
  merger := { Merger.reset with collecting := some ⟨true, true, p, q, none, window⟩ } }

theorem test_witness_leads : (collecting LanePart.empty leading none).leadPossible .a = true
    ∧ LanePart.empty = ⟨false, false, false, none⟩ ∧ leading.copy = none ∧ ended.lead = true ∧ leading.ended = false
    ∧ (collecting ended leading (some 0)).decides ⟨true, true, ended, leading, none, some 0⟩ .b = true
    ∧ (collecting ended leading (some 0)).merger.nextA.copy = none := by decide

theorem test_lead_overrun : (after (.leadEstablished .a) (collecting ended leading (some 0))).laneA.kindSet = 0x100
    ∧ (after (.leadEstablished .a) (collecting { ended with copy := none } leading (some 0))).laneA.kindSet = 0
    ∧ (after (.leadEstablished .a) (collecting ended leading (some 0))).merger.nextA = leading
    ∧ (after (.leadEstablished .a) (collecting LanePart.empty leading none)).merger.collecting.map (·.partA) = some leading := by decide

/-- Lane A receives well, lane B's copy has an error, or differs; the window has run out on this attempt. -/
def badCopy : Copy := { copied with bad := true }
def other : Copy := { copied with body := [7] }
def part (c : Option Copy) : LanePart := ⟨true, true, false, c⟩
def deciding (c d : Option Copy) (health : Health) (bad clean : Nat) : State := { axis with
  laneB := { LaneReceiver.reset with health := health, badRun := bad, cleanRun := clean }
  merger := { Merger.reset with collecting := some ⟨true, health == .good, part c, part d, some .a, some 0⟩ } }
def decided (c d : Option Copy) (health : Health) (bad clean : Nat) : Health × Nat × Nat :=
  let r := (after .skewWindowExpiry (deciding c d health bad clean)).laneB
  (r.health, r.badRun, r.cleanRun)

theorem test_witness_health : (deciding (some copied) (some badCopy) .good 7 0).skewDue.isSome = true
    ∧ (part (some badCopy)).cleanCopy = false ∧ (part (some copied)).cleanCopy = true ∧ copied.same copied = true
    ∧ copied.same other = false ∧ (deciding (some copied) none .good 0 0).laneB.health ≠ .off
    ∧ (deciding (some badCopy) (some badCopy) .good 0 0).stop.mode.onBus = true
    ∧ ((deciding (some badCopy) (some badCopy) .good 0 0).outcome
        ⟨true, true, part (some badCopy), part (some badCopy), some .a, some 0⟩).accepted = none := by decide

theorem test_health_good : decided (some copied) (some badCopy) .good 6 0 = (.good, 7, 0)
    ∧ decided (some copied) (some badCopy) .good 7 0 = (.degraded, 0, 0) ∧ decided (some copied) (some copied) .good 7 0 = (.good, 0, 0)
    ∧ decided (some badCopy) (some badCopy) .good 7 0 = (.good, 7, 0) := by decide

theorem test_health_degraded : decided (some copied) (some copied) .degraded 0 14 = (.degraded, 0, 15)
    ∧ decided (some copied) (some copied) .degraded 0 15 = (.good, 0, 0)
    ∧ decided (some copied) (some other) .degraded 0 15 = (.degraded, 0, 0)
    ∧ decided (some badCopy) (some copied) .degraded 0 15 = (.degraded, 0, 15)
    ∧ decided (some copied) none .off 3 3 = (.off, 3, 3) := by decide

theorem test_snapshots : (after .skewWindowExpiry (deciding (some copied) (some other) .good 0 0)).merger.snapshot
      = some ⟨.disagree, true, true, true, true, some 1⟩
    ∧ (after .skewWindowExpiry (deciding (some copied) none .good 0 0)).merger.snapshot
      = some ⟨.missingOnB, true, true, true, false, some 1⟩
    ∧ (after .skewWindowExpiry (deciding (some badCopy) (some badCopy) .good 0 0)).counter .suspicion = 1
    ∧ (after .tailExpiry { tailing with laneB := { LaneReceiver.reset with health := .degraded, cleanRun := 15 } }).laneB.health = .good := by
  decide

/-- A lane that is OFF, and a command of a step. -/
theorem test_witness_off : turnedOff.laneB.health = .off ∧ turnedOff.laneB.recv = .idle ∧ Instr.skewWindowExpiry.wellFormed = true
    ∧ Instr.skewWindowExpiry.isReset = false ∧ Instr.skewWindowExpiry ≠ .clearCounters := by decide

/-! ### Witnesses: STOP, CLEAR, requests and reports -/

/-- A claim that waits, given up before; under the duplicate mark; a pause's deceleration. -/
def claimWait (awaiting : Awaiting) (duplicate : Bool) : State := { waiting .claiming false with
  stop := { axis.stop with duplicate := duplicate }
  exe := { (waiting .claiming false).exe with awaiting := awaiting } }

theorem test_witness_stopRows : (claimWait .withdraw false).exe.awaiting ≠ .nothing ∧ (claimWait .nothing true).stop.duplicate = true
    ∧ (waiting .claiming true).exe.awaiting = .nothing ∧ (waiting .claiming true).hasUnsent .space (·.kind == .claim) = true
    ∧ (claimWait .nothing false).hasUnsent .space (·.kind == .claim) = false ∧ (claimWait .nothing false).exe.motion = .claiming
    ∧ (claimWait .nothing false).cue.queue = [head]
    ∧ (stopping .pause .active).exe.stage ≠ .applying ∧ (pausing .active).exe.stage = .applying := by decide

theorem test_stop_rows : (after (.stop 1 3 toAll) (claimWait .nothing false)).exe.awaiting = .withdraw
    ∧ (after (.stop 1 3 toAll) (claimWait .withdraw false)).tx.space.places = []
    ∧ (after (.stop 1 3 toAll) (waiting .claiming true)).exe.motion = .idle
    ∧ (after (.stop 1 3 toAll) (claimWait .nothing true)).exe.motion = .idle
    ∧ (after (.stop 1 3 toAll) (stopping .pause .active)).exe.purpose = some .release
    ∧ (after (.stop 1 3 toAll) (pausing .active)).exe.motion = .settling := by decide

/-- HALTED, with the own claim HELD in CLAIMING, from this height. -/
def heldBack (start : Nat) : State := { running .claiming with
  stop := { axis.stop with mode := .halted }
  exe := { (running .claiming).exe with startHeight := some start } }

theorem test_witness_clearHeld : (heldBack 10000).stop.mode = .halted ∧ (heldBack 10000).exe.motion = .claiming
    ∧ (heldBack 10000).exe.awaiting = .nothing ∧ (heldBack 10000).exe.waitSince = none ∧ (heldBack 10000).ownSweep = some ownSweep
    ∧ ownSweep.isHeld = true ∧ 10000 ≠ segment.target ∧ 12000 = segment.target ∧ (heldBack 10000).stop.duplicate = false
    ∧ { heldBack 10000 with claims := ClaimsEngine.reset }.ownSweep = none := by decide

theorem test_clear_held : (after (.clear 7 1 toAll) (heldBack 10000)).exe.motion = .unbraking
    ∧ (after (.clear 7 1 toAll) (heldBack 12000)).exe.awaiting = .release := by decide

theorem test_witness_unknown : axis.hears 9 = true ∧ axis.entry (9 : BitVec 7).toNat = none ∧ axis.stop.mode ≠ .joining
    ∧ axis.claims.view = .sound ∧ (joined axisCfg .joining).stop.mode = .joining
    ∧ { axis with claims := { axis.claims with view := .blind } }.claims.view = .blind
    ∧ parseBody .status 9 near.encode = some (.status near) ∧ axis.entry (7 : BitVec 7).toNat = some deskPeer
    ∧ deskPeer.record.role = .desk ∧ axis.exe.motion ≠ .gated ∧ axis.hears 7 = true ∧ axis.stop.duplicate = false := by decide

theorem test_unknown : (after (.status 9 3 near.encode) axis).hasQueued .restateRequest = true
    ∧ (after (.restateRequest 9 3 []) axis).claims.windowSince = some 0
    ∧ (after (.restateRequest 9 3 []) axis).counter .suspicion = 1
    ∧ (after (.restateRequest 9 3 []) (joined axisCfg .joining)).counter .suspicion = 0
    ∧ (after (.status 7 3 near.encode) axis).stop = axis.stop := by decide

/-! ### Witnesses: promotions, collisions, the watch and the gate -/

/-- The own sweep waits for station 1's, at this start height, in this mode. -/
def yielding (start : Nat) (mode : Mode) : State := { running .claiming with
  stop := { axis.stop with mode := mode }
  exe := { (running .claiming).exe with startHeight := some start }
  claims := { ClaimsEngine.reset with table :=
    [(0, ⟨1, .sweep .held 4 1 1, ⟨9, 11⟩, ⟨8000, 14000⟩, true⟩), (1, { ownSweep with form := .sweep .waiting 4 1 1 })] } }

theorem test_witness_promotion : (yielding 10000 .active).hears 1 = true ∧ (yielding 10000 .active).entry (1 : BitVec 7).toNat = some peer
    ∧ (Table.sweepOf (yielding 10000 .active).claims.table 1).isSome = true
    ∧ (Table.sweepOf (yielding 10000 .active).claims.table 5).map (·.isHeld) = some false
    ∧ (Table.sweepOf (Table.pass (yielding 10000 .active).conflict (Table.remove (yielding 10000 .active).claims.table (sweepOwned 1))) 5).map
        (·.isHeld) = some true
    ∧ Table.heldConflicts (yielding 10000 .active).conflict
        (Table.pass (yielding 10000 .active).conflict (Table.remove (yielding 10000 .active).claims.table (sweepOwned 1))) 5 = []
    ∧ (yielding 10000 .active).exe.startHeight = some 10000 ∧ (yielding 12000 .active).exe.startHeight = some segment.target
    ∧ (yielding 10000 .halted).stop.mode ≠ .active ∧ (yielding 10000 .active).stop.duplicate = false := by decide

theorem test_promotion : (after (.withdraw 1 3 []) (yielding 10000 .active)).exe.motion = .unbraking
    ∧ (after (.withdraw 1 3 []) (yielding 12000 .active)).exe.awaiting = .release
    ∧ (after (.withdraw 1 3 []) (yielding 10000 .halted)).exe.motion = .claiming := by decide

/-- A RELEASE of station 1 into the own sweep. -/
def intruding : List Byte := (Content.release ⟨9, 11⟩ ⟨9000, 9500⟩).encode

theorem test_witness_collision : parseBody .release 1 intruding = some (.release ⟨9, 11⟩ ⟨9000, 9500⟩)
    ∧ Table.hasRoom moving.claims.table (ownedBy 1) 1 = true
    ∧ Table.heldConflicts moving.conflict (Table.pass moving.conflict
        (Table.enter (Table.remove moving.claims.table (ownedBy 1)) ⟨1, .standing, ⟨9, 11⟩, ⟨9000, 9500⟩, true⟩)) 5 = [(true, 1, false)]
    ∧ Table.heldConflicts moving.conflict moving.claims.table 5 = [] ∧ moving.stop.mode ≠ .stopped
    ∧ { moving with stop := { moving.stop with mode := .stopped } }.stop.mode = .stopped := by decide

theorem test_collision_stops : (after (.release 1 3 intruding) moving).stop.record.map (·.cause) = some .collision
    ∧ (after (.release 1 3 intruding) moving).counter .claimsCollision = 1
    ∧ (after (.release 1 3 releaseBody) moving).stop.mode = .active := by decide

/-- Station 1's load far off, outside its claims; beside the own one and STOPPED; within its own STANDING. -/
def far : StatusReport := { near with height := some 15000 }
def housed : State := { axis with claims := { ClaimsEngine.reset with table := [(0, ⟨1, .standing, ⟨9, 11⟩, ⟨0, 20000⟩, true⟩)] } }

theorem test_witness_watch : parseBody .status 1 far.encode = some (.status far)
    ∧ (peer.record.occupied 15000).intersects (axis.ownOccupied 10000) = false
    ∧ axis.withinClaims 1 (peer.record.occupied 15000) = false ∧ housed.withinClaims 1 (peer.record.occupied 10000) = true
    ∧ far.motion = .idle ∧ far.mode ≠ .stopped ∧ axis.tx.safe = ⟨[], []⟩ ∧ axis.claims.view = .sound ∧ housed.tableOk = true
    ∧ (reporting false).tx.safe.places.length < 2 ∧ { near with mode := .stopped }.mode = .stopped := by decide

theorem test_watch : (after (.status 1 3 far.encode) axis).counter .breach = 1
    ∧ (after (.status 1 3 far.encode) axis).tx.safe.places.length = 1
    ∧ (after (.status 1 3 far.encode) (after (.status 1 3 far.encode) axis)).tx.safe.places.length = 1
    ∧ (after (.status 1 3 near.encode) housed).counter .breach = 0
    ∧ (after (.status 1 3 { near with mode := .stopped }.encode) axis).tx.safe.places = []
    ∧ (after (.status 1 3 far.encode)
        { axis with tx := { axis.tx with safe := ⟨List.replicate 2 ⟨.clear, .mailbox, some [], false⟩, []⟩ } }).counter .safeDropped = 1 := by
  decide

/-- GATED on station 1 standing still, in this mode. -/
def gatedOn (mode : Mode) : State := { running .gated with
  stop := { axis.stop with mode := mode }
  claims := { ClaimsEngine.reset with table := [(0, ⟨1, .standing, ⟨9, 11⟩, ⟨0, 20000⟩, true⟩)] }
  exe := { (running .gated).exe with segment := some { segment with gate := some ⟨1, .still, none⟩ } } }

theorem test_witness_gate : (gatedOn .active).exe.motion = .gated ∧ (gatedOn .active).exe.gateLatch = false
    ∧ (gatedOn .active).exe.segment = some { segment with gate := some ⟨1, .still, none⟩ } ∧ (gatedOn .active).claims.view = .sound
    ∧ (gatedOn .active).actualHeight = some 10000 ∧ (gatedOn .halted).stop.mode ≠ .active ∧ (gatedOn .active).stop.duplicate = false
    ∧ far.motion = .idle ∧ { far with motion := .moving }.motion ≠ .idle ∧ { far with height := none }.height = none := by decide

theorem test_gate : (after (.status 1 3 far.encode) (gatedOn .active)).exe.motion = .claiming
    ∧ (after (.status 1 3 far.encode) (gatedOn .halted)).exe.gateLatch = true
    ∧ (after (.status 1 3 { far with motion := .moving }.encode) (gatedOn .active)).exe.gateLatch = false := by decide

/-! ### Witnesses: the echoes of the station's own frames -/

/-- The executor has given its claim up and awaits the WITHDRAW's echo; a STANDING stands under the sweep, or none. -/
def withdrawing (standing : Bool) : State := echoing { running .claiming with
    cue := { CueEngine.reset with queue := [head], freeze := .stop }
    exe := { (running .claiming).exe with awaiting := .withdraw }
    claims := { ClaimsEngine.reset with table := (0, ownSweep) ::
      if standing then [(1, { ownSweep with form := .standing, vertical := ⟨9000, 11000⟩ })] else [] } }
  .withdraw .executor []

/-- The own TRIM of the sweep from this height on, the own RESTATE with the sweep, and a request of the own. -/
def trimEcho (low : Int) : State := echoing moving .trim .executor (Content.trim 1 1 ⟨low, 14000⟩).encode
def restateEcho : State :=
  let s : State := { running .claiming with dir := ⟨[peer, ⟨5, axis.ownRecord, true, none, 0⟩], some 20000, false⟩ }
  echoing s .restate .claims s.restateBody
def requestEcho (view : View) : State := echoing { axis with claims := { axis.claims with view := view } } .restateRequest .claims []

theorem test_witness_echoes : (withdrawing true).stop.mode.onBus = true ∧ (5 : BitVec 7).toNat = (withdrawing true).number
    ∧ ((withdrawing true).expectedEcho .withdraw).isSome = true ∧ (withdrawing true).frozen = true
    ∧ (withdrawing true).exe.awaiting = .withdraw ∧ head.cancelling = false ∧ parseBody .withdraw 5 [] = some .empty
    ∧ (Table.standingOf (Table.pass (withdrawing true).conflict (Table.remove (withdrawing true).claims.table (sweepOwned 5))) 5).isSome = true
    ∧ Table.standingOf (Table.pass (withdrawing false).conflict (Table.remove (withdrawing false).claims.table (sweepOwned 5))) 5 = none
    ∧ ((trimEcho 9000).expectedEcho .trim).isSome = true ∧ (⟨9000, 14000⟩ : Band).inside ownSweep.vertical = true
    ∧ (⟨7999, 14000⟩ : Band).inside ownSweep.vertical = false
    ∧ parseBody .trim 5 (Content.trim 1 1 ⟨9000, 14000⟩).encode = some (.trim 1 1 ⟨9000, 14000⟩) := by decide

theorem test_witness_restatements : (restateEcho.expectedEcho .restate).isSome = true
    ∧ (parseBody .restate 5 restateEcho.restateBody).isSome = true ∧ (restateEcho.entry 5).isSome = true
    ∧ restateEcho.exe.motion = .claiming ∧ restateEcho.exe.awaiting = .nothing
    ∧ ((requestEcho .suspect).expectedEcho .restateRequest).isSome = true ∧ (requestEcho .suspect).claims.view = .suspect
    ∧ ((echoing axis .stop .mailbox toAll).expectedEcho .stop).map (·.2.origin) = some .mailbox
    ∧ ((echoing axis .stop .watch toAll).expectedEcho .stop).map (·.2.origin) = some .watch
    ∧ parseBody .stop 5 toAll = some (.safe .all .operator) ∧ axis.selects .all = true := by decide

theorem test_own_withdraw : (after (.withdraw 5 3 []) (withdrawing true)).exe.motion = .idle
    ∧ (after (.withdraw 5 3 []) (withdrawing false)).exe.awaiting = .release := by decide
theorem test_own_trim : (Table.sweepOf (after (.trim 5 3 []) (trimEcho 9000)).claims.table 5).map (·.vertical) = some ⟨9000, 14000⟩
    ∧ (after (.trim 5 3 []) (trimEcho 7999)).counter .trimRejected = 1 := by decide
theorem test_own_restate : (after (.restate 5 3 []) restateEcho).exe.motion = .unbraking := by decide
theorem test_own_request : (after (.restateRequest 5 3 []) (requestEcho .suspect)).claims.windowSince = some 0
    ∧ (after (.restateRequest 5 3 []) (requestEcho .suspect)).hasQueued .restate = true := by decide
theorem test_own_safe : (after (.stop 5 3 []) (echoing axis .stop .mailbox toAll)).stop.mode = .stopped
    ∧ (after (.stop 5 3 []) (echoing axis .stop .watch toAll)).stop.mode = .active
    ∧ (after (.halt 5 3 []) (echoing axis .halt .mailbox toAll)).stop.mode = .halted
    ∧ (after (.halt 5 3 []) (echoing (joined axisCfg .stopped) .halt .mailbox toAll)).counter .safeIgnored = 1 := by decide

/-! ### Witnesses: lost echoes of any kind, collisions under the duplicate mark -/

/-- The duplicate mark is set while the own WITHDRAW is being sent. -/
def doubled : State := { sending .withdraw true (.sending .space) with stop := { axis.stop with duplicate := true } }

theorem test_witness_anyEcho : (withdrawing true).echoDue = some (200, .space) ∧ (withdrawing true).oneInFlight = true
    ∧ (withdrawing true).tx.expected = some .withdraw ∧ (withdrawing true).dec.inbox = [] ∧ (withdrawing true).dir.reportDue = false
    ∧ (withdrawing true).inFlight .space = some ⟨.withdraw, .executor, some [], true⟩ ∧ stationInRange 5 = true
    ∧ doubled.tx.state = .sending .space ∧ doubled.stop.duplicate = true := by decide

theorem test_echoLost_withdraw : (after .echoLost (withdrawing true)).exe.motion = .idle
    ∧ (after .echoLost (withdrawing true)).claims.view = .suspect := by decide
theorem test_collision_duplicate : (after .collision doubled).tx.space.frames = [] := by decide

/-! ### The duplicate mark after a trip (R124) -/

/-- After a trip the RELEASE is queued and unsent; no feedback has reported the brake APPLIED since, or one has. -/
def tripReleasing (isOpen : Bool) : State := { tripped with
  exe := { tripped.exe with stage := .running, awaiting := .release, tripOpen := isOpen }
  tx := { Transmitter.reset with space := ⟨[⟨.release, .executor, some [], false⟩], []⟩ } }

theorem test_duplicate_after_trip : (after (.halt 5 3 toAll) (tripReleasing true)).exe.motion = .settling
    ∧ (after (.halt 5 3 toAll) (tripReleasing true)).exe.purpose = some .hold
    ∧ (after (.halt 5 3 toAll) (tripReleasing true)).tx.space.frames = []
    ∧ (after (.halt 5 3 toAll) (tripReleasing false)).exe.motion = .idle := by decide
theorem test_duplicate_then_applied :
    (after (.feedback (message 5)) (after (.halt 5 3 toAll) (tripReleasing true))).exe.motion = .idle := by decide

/-! ### Witnesses: misfiled frames that wait their turn (R140) -/

/-- The decoder holds a frame, a misfiled one behind it, or before it. -/
def held : AcceptedFrame := ⟨.withdraw, 1, 3, []⟩
def inboxOf (fs : List (Option AcceptedFrame)) : State := { axis with dec := { axis.dec with inbox := fs } }

/-- The copy of a frame filed under no kind. -/
def misfiledCopy : Copy := { copied with header := some ⟨1, 1, 15, 3⟩ }

theorem test_witness_misfiled : (inboxOf [none, some held]).misfiledNext = true ∧ (inboxOf [none]).pending = []
    ∧ (inboxOf [some held, none]).misfiledNext = false ∧ (inboxOf [none]).dueCommand = none
    ∧ (⟨1, 1, 15, 3⟩ : Header).filed = none := by decide

theorem test_misfiled_step : (match step (inboxOf [none, some held]) with
    | .next t => (t.dec.inbox, t.dec.lastCode, t.now) | _ => ([], .none, 0)) = ([some held], .misfiled, axis.now) := by decide
theorem test_misfiled_order : (after (.withdraw 1 3 []) (inboxOf [some held, none, some held])).dec.inbox = [none, some held]
    ∧ (after (.withdraw 1 3 []) (inboxOf [some held, none])).dec.lastCode = .none
    ∧ (after (.withdraw 1 3 []) (inboxOf [none, some held])).dec.lastCode = .misfiled := by decide

/-- Both lanes bring the misfiled frame, with this inbox. -/
def misfiling (fs : List (Option AcceptedFrame)) : State :=
  let s := deciding (some misfiledCopy) (some misfiledCopy) .good 0 0
  { s with dec := { s.dec with inbox := fs } }

theorem test_misfiled_accepted : (after .skewWindowExpiry (misfiling [])).dec = { axis.dec with lastCode := .misfiled }
    ∧ (after .skewWindowExpiry (misfiling [some held])).dec.inbox = [some held, none]
    ∧ (after .skewWindowExpiry (misfiling [some held])).dec.lastCode = .none := by decide

/-! ### Witnesses: what a change of the table is (R18) -/

/-- Station 1 holds a STANDING, unconfirmed; the RELEASE that claims the same; one that claims another band. -/
def unconfirmed : State := { axis with claims := { ClaimsEngine.reset with
  table := [(0, ⟨1, .standing, ⟨9, 11⟩, ⟨15500, 16000⟩, false⟩)] } }
def otherRelease : List Byte := (Content.release ⟨9, 11⟩ ⟨15501, 16000⟩).encode

theorem test_witness_sameClaims : Table.sameClaims unconfirmed.claims.table [(0, ⟨1, .standing, ⟨9, 11⟩, ⟨15500, 16000⟩, true⟩)] = true
    ∧ Table.sameClaims unconfirmed.claims.table [(0, ⟨1, .standing, ⟨9, 11⟩, ⟨15501, 16000⟩, false⟩)] = false
    ∧ parseBody .release 1 otherRelease = some (.release ⟨9, 11⟩ ⟨15501, 16000⟩) := by decide

theorem test_sameClaims_silent : (after (.release 1 3 releaseBody) unconfirmed).flagSet .claimsChange = false
    ∧ (Table.standingOf (after (.release 1 3 releaseBody) unconfirmed).claims.table 1).map (·.confirmed) = some true
    ∧ (after (.release 1 3 otherRelease) unconfirmed).flagSet .claimsChange = true := by decide

set_option maxRecDepth 4000 in
theorem test_restate_tableFull : crowded.canEnter 1 = true ∧ Table.hasRoom crowded.claims.table (ownedBy 1) 1 = false
    ∧ (after (.restate 1 3 announcement.encode) crowded).claims.view = .blind
    ∧ (after (.restate 1 3 announcement.encode) crowded).counter .tableFull = 1 := by decide

/-! ### Witnesses: a trip after a trip (R115, R113) -/

/-- SETTLING on a segment's purpose while the brake is being applied, and paused. -/
def paused : State := { running .paused with exe := { (running .paused).exe with setpoint := none } }

theorem test_witness_further : tripped.exe.tripOpen = false ∧ tripped.exe.awaiting = .nothing ∧ settling.exe.stage ≠ .tripped
    ∧ paused.exe.motion = .paused ∧ tripped.exe.raised.following = false := by decide

theorem test_further_trip : (tripped.executorTrip).exe.awaiting = .release
    ∧ ({ tripped with exe := { tripped.exe with tripOpen := true } }.executorTrip).exe.awaiting = .nothing
    ∧ (paused.executorTrip).exe.awaiting = .release ∧ (paused.executorTrip).exe.motion = .settling := by decide

/-! ### Witnesses: trims at rest, both watch faults, the reasons of a check -/

/-- At rest on the target of a segment that asks for trims, with these counts. -/
def trimAtRest (count since : Nat) : State := { atTarget since with
  exe := { (atTarget since).exe with segment := some { segment with trim := true }, trimCount := count, trimReached := 1 } }

theorem test_witness_trimAtRest : (trimAtRest 0 0).exe.restSince = some 6000000 ∧ 6000000 ≤ (trimAtRest 0 0).now
    ∧ (trimAtRest 0 0).exe.trimCount < 1 ∧ ¬(trimAtRest 1 0).exe.trimCount < 1 ∧ (trimAtRest 0 0).cfg.trimStep ≠ 0
    ∧ (trimAtRest 0 49999).now < (trimAtRest 0 49999).exe.standSince.getD 0 + 50000 := by decide

theorem test_trimAtRest : (after (.feedback (message 13)) (trimAtRest 0 0)).exe.trimCount = 1
    ∧ (after (.feedback (message 13)) (trimAtRest 1 0)).tx = (trimAtRest 1 0).tx
    ∧ (after (.feedback fast) (trimAtRest 0 0)).exe.standSince = none
    ∧ (after (.feedback (message 13)) (trimAtRest 0 50000)).exe.motion = .settling := by decide

theorem test_both_faults : axis.withinClaims 1 (peer.record.occupied 10000) = false
    ∧ ((after (.status 1 3 near.encode) axis).tx.safe.frames.map (·.origin)).length = 2 := by decide

/-- The valid record with one byte changed, and with field 6 unwritten. -/
def withByte (i : Fin 48) (v : Byte) : ConfigStore := { axisCfg with image := axisCfg.image.set i v }

theorem test_reasons : { axisCfg with written := 0x3FFFFDF }.validate = some (6, .unwritten)
    ∧ (withByte 0 100).validate = some (1, .range) ∧ (withByte 13 0x03).validate ≠ none
    ∧ (withByte 11 0x03).validate.map (·.2) = some .relation := by decide

/-! ### Witnesses: a CANCEL of a started cue, and the armed cue behind it -/

/-- The started cue 1 in this motion state, its CLAIM unsent or sent, with cue 2 behind it, armed or not; a cue that has moved. -/
def cancelling (motion : Motion) (claimUnsent armed moved : Bool) : State := { waiting motion claimUnsent with
  cue := { CueEngine.reset with queue := [{ head with moved := moved },
    ⟨{ segment with cue := 2 }, 1, armed, false, false, false⟩] } }

theorem test_witness_cancelling : (cancelling .claiming true true false).exe.awaiting = .nothing
    ∧ (cancelling .claiming true true false).hasUnsent .space (·.kind == .claim) = true
    ∧ (cancelling .claiming false true false).hasUnsent .space (·.kind == .claim) = false
    ∧ (cancelling .claiming false true false).stop.duplicate = false
    ∧ (cancelling .gated false true false).exe.motion = .gated ∧ (cancelling .gated false true true).headMoved = true
    ∧ (cancelling .gated false true false).stop.mode = .active
    ∧ (cancelling .gated false true false).cue.queue.any (fun x => x.segment.cue == 1 && x.cancelling) = false := by decide

theorem test_cancelling : (after (.cancel 7 3 (cueBody 1)) (cancelling .claiming true false false)).exe.motion = .idle
    ∧ (after (.cancel 7 3 (cueBody 1)) (cancelling .claiming false true false)).exe.awaiting = .withdraw
    ∧ (after (.cancel 7 3 (cueBody 1)) (cancelling .gated false true false)).cue.queue.map (·.started) = [true]
    ∧ (after (.cancel 7 3 (cueBody 1)) (cancelling .delaying false true true)).cue.freeze = .cancelStopped := by decide

/-! ### How a body ends (R157) -/

/-- The copy cut short with this header. -/
def cutAt : Copy := ⟨some ⟨1, 1, 10, 3⟩, [], false, true⟩

/-- No body: sixteen bits of CRC that are all recessive but for this one, stuffed as they are sent, and what follows. -/
def crcBits (wrong : Bool) (rest : List Bool) : List Bool :=
  List.replicate 6 true ++ [false] ++ List.replicate 6 true ++ [false] ++ [true, true, true, !wrong] ++ rest

theorem test_witness_bodies : destuff 16 false 0 [] (crcBits false []) = .bits (List.replicate 16 true) true 4 []
    ∧ natOfBits (List.replicate 16 true) = (bodyCrc []).toNat ∧ destuff 16 false 0 [] [true] = .ranOut
    ∧ destuff 16 false 0 [] (crcBits true []) = .bits (List.replicate 15 true ++ [false]) false 1 []
    ∧ natOfBits (List.replicate 15 true ++ [false]) ≠ (bodyCrc []).toNat
    ∧ destuff 16 false 0 [] (List.replicate 7 true) = .stuffing true []
    ∧ destuff 16 true 0 [] (List.replicate 7 false) = .stuffing false [] := by decide

theorem test_bodyEnds : receiveBody false [] ⟨1, 1, 10, 3⟩ 0 false 0 (crcBits false trailMark) = ⟨[], some copied, false⟩
    ∧ receiveBody true [] ⟨1, 1, 10, 3⟩ 0 false 0 (crcBits false [true]) = ⟨[], some cutAt, true⟩
    ∧ receiveBody true [] ⟨1, 1, 10, 3⟩ 0 false 0 (crcBits true [true]) = ⟨[.bodyBad], some cutAt, true⟩
    ∧ receiveBody false [] ⟨1, 1, 10, 3⟩ 0 false 0 [true] = ⟨[.short], some cutAt, true⟩
    ∧ receiveBody false [] ⟨1, 1, 10, 3⟩ 0 false 0 (List.replicate 7 true) = ⟨[.short], some cutAt, true⟩ := by decide

/-- A fault at the stuffed bit after a wrong CRC, of either level, and BABBLE there. -/
theorem test_stuffedBitAfterCrc : receiveTrail false [] ⟨1, 1, 10, 3⟩ 0 (List.replicate 16 false) true 6 [true]
      = ⟨[.bodyBad, .short], some cutAt, true⟩
    ∧ receiveTrail false [] ⟨1, 1, 10, 3⟩ 0 (List.replicate 16 false) false 6 [false] = ⟨[.bodyBad], some cutAt, true⟩
    ∧ receiveTrail true [] ⟨1, 1, 10, 3⟩ 0 (List.replicate 16 false) true 6 [] = ⟨[.bodyBad], some cutAt, true⟩ := by decide

/-! ### Selectors and the mode test (R65, R66) -/

/-- Membership of the groups 1 and 9. -/
def grouped : State := { axis with cfg := { axisCfg with image := (axisCfg.image.set 0x17 2).set 0x18 2 } }

theorem test_selectors : grouped.selects (.group 1) = true ∧ grouped.selects (.group 9) = true ∧ grouped.selects (.group 2) = false
    ∧ axis.selects (.station 5) = true ∧ axis.selects (.span 10 10) = true ∧ axis.selects (.span 11 12) = false
    ∧ axis.selects (.span 12 10) = false ∧ desk.selects .all = false ∧ desk.selects (.span 0 127) = false
    ∧ desk.selects (.station 5) = true := by decide

theorem test_modes : (joined axisCfg .stopped).modeAdmits .load = true ∧ (joined axisCfg .stopped).modeAdmits .go = false
    ∧ (joined axisCfg .joining).modeAdmits .load = false ∧ (inWindow .stopped .window).modeAdmits .load = false
    ∧ (joined axisCfg .halted).modeAdmits .resume = true := by decide

/-! ### Fitting (R60, R61) and bands (R5 to R8, R11) -/

/-- Every field at its lower bound, and every field beyond its upper one. -/
def least : CarriedSegment := ⟨1, 2000, 9, 99, 99, 0, some 0, none, some 99, false⟩
def most : CarriedSegment := ⟨4, 20001, 1001, 3001, 1001, 7, some 60001, some ⟨1, .above, some 40001⟩, some 30001, true⟩

theorem test_fitting : (axis.fitSegment 3 least) = ⟨3, 1, 2000, 10, 100, 100, 0, none, none, 100, false, false⟩
    ∧ (axis.fitSegment 3 most) = ⟨3, 4, 20001, 1000, 3000, 1000, 7, some 60000, some ⟨1, .above, some 40000⟩, 30000, true, true⟩
    ∧ (axis.fitSegment 3 { least with waitLimit := none, target := 1999 }).waitLimit = 5000
    ∧ (axis.fitSegment 3 { least with target := 1999 }).isVoid = true := by decide

/-- Stations 1 and 5 name each other. -/
def friends : State := { axis with
  cfg := { axisCfg with image := (axisCfg.image.set 0x19 1).set 0x1A 1 }
  dir := ⟨[{ peer with record := { peer.record with companions := [5] } }], none, false⟩ }

theorem test_bands : axis.cfg.validate = none ∧ axis.ownDepth = ⟨9, 11⟩ ∧ axis.ownOccupied 10000 = ⟨8900, 10600⟩
    ∧ axis.sweepBand 12000 10000 = ⟨8900, 12600⟩ ∧ axis.fullColumnBand = ⟨900, 20600⟩ ∧ (blind axis).actualHeight = none
    ∧ friends.areCompanions 1 5 = true ∧ axis.areCompanions 1 5 = false ∧ friends.areCompanions 5 5 = false
    ∧ (⟨.axis, 2, 4, 2, 9000, 1200, 250, 0, [], 3⟩ : DirRecord).depthBand = ⟨0, 4⟩
    ∧ (⟨.axis, 126, 0, 5, 1000, 0, 100, 0, [], 3⟩ : DirRecord).depthBand = ⟨126, 127⟩ := by decide

/-! ### Completion of a segment and the park (R72, R77, R81) -/

/-- The executor awaits the echo of its RELEASE with this queue behind the head, and a park pending or not. -/
def completing (cancelling : Bool) (freeze : Freeze) (park : Parked) (rest : List QueueEntry) : State := { releasing with
  cue := { CueEngine.reset with
    queue := { head with cancelling := cancelling } :: rest, freeze := freeze, parked := park, cancelMoved := true } }

/-- The next segment of the cue, and another cue's, armed, loaded by ALL or by STATION. -/
def nextOfCue : QueueEntry := ⟨{ segment with index := 2 }, 4, true, false, false, false⟩
def otherCue (specificity : Nat) (armed : Bool) : QueueEntry := ⟨{ segment with cue := 2 }, specificity, armed, false, false, false⟩

theorem test_witness_completing : ((completing false .none .notParked [nextOfCue]).expectedEcho .release).map (·.2.origin) = some .executor
    ∧ (completing false .none .notParked [nextOfCue]).exe.awaiting = .release
    ∧ parseBody .release 5 (Content.release ⟨9, 11⟩ ⟨8900, 10600⟩).encode = some (.release ⟨9, 11⟩ ⟨8900, 10600⟩)
    ∧ Table.hasRoom (completing false .none .notParked []).claims.table (ownedBy 5) 1 = true
    ∧ Table.heldConflicts axis.conflict (Table.enter [] ⟨5, .standing, ⟨9, 11⟩, ⟨8900, 10600⟩, true⟩) 5 = []
    ∧ nextOfCue.segment.cue = head.segment.cue ∧ (otherCue 1 true).segment.cue ≠ head.segment.cue := by decide

theorem test_completion_next : (after (.release 5 3 []) (completing false .none .notParked [nextOfCue])).cue.queue.map (·.started) = [true]
    ∧ (after (.release 5 3 []) (completing false .none .notParked [otherCue 1 false])).cue.queue.map (·.started) = [false]
    ∧ (after (.release 5 3 []) (completing false .none .notParked [otherCue 1 true])).cue.queue.map (·.started) = [true]
    ∧ (after (.release 5 3 []) (completing false .stop .notParked [nextOfCue])).cue.queue.length = 2 := by decide

theorem test_completion_park : (after (.release 5 3 []) (completing false .none .pending [otherCue 1 true])).cue.parked = .parked
    ∧ (after (.release 5 3 []) (completing false .none .pending [otherCue 1 true])).counter .parkRemoved = 1
    ∧ (after (.release 5 3 []) (completing false .none .pending [otherCue 4 true])).cue.queue.map (·.started) = [true]
    ∧ (after (.release 5 3 []) (completing true .stop .pending [otherCue 1 true])).cue.freeze = .cancelStopped
    ∧ (after (.release 5 3 []) (completing true .stop .pending [otherCue 1 true])).cue.parked = .pending := by decide

/-! ### CANCEL and RESUME: the remaining rows; a trip before the move -/

/-- A CANCEL of the head with a park pending, and of the cue behind it. -/
def parking (rest : List QueueEntry) : State := { axis with
  cue := { CueEngine.reset with queue := { head with started := false } :: rest, parked := .pending } }

theorem test_cancel_park : (after (.cancel 7 3 (Content.cue (.station 5) 1).encode) (parking [otherCue 4 false])).cue.parked = .parked
    ∧ (after (.cancel 7 3 (Content.cue (.station 5) 2).encode) (parking [otherCue 1 false])).cue.queue.length = 1
    ∧ (parking []).cue.freeze = .none := by decide

theorem test_cancel_rows : (after (.cancel 7 3 (cueBody 1)) unbraking).exe.usePreMove = true
    ∧ (after (.cancel 7 3 (cueBody 1)) (stopping .pause .active)).exe.purpose = some .release
    ∧ (after (.cancel 7 3 (cueBody 1)) (pausing .active)).exe.motion = .settling
    ∧ (after (.cancel 7 3 (cueBody 1)) settling).exe = settling.exe
    ∧ (after (.cancel 7 3 (cueBody 1)) paused).exe.awaiting = .release
    ∧ (after (.cancel 7 3 (cueBody 1)) paused).cue.queue.map (·.cancelling) = [true] := by decide

/-- The frozen head is VOID. -/
def voidHead : State := { axis with cue := { CueEngine.reset with
  queue := [⟨{ segment with isVoid := true }, 1, true, true, false, false⟩], freeze := .voidTarget } }

theorem test_resume_void : (after (.resume 7 3 (cueBody 1)) voidHead).cue.freeze = .voidTarget
    ∧ (after (.resume 7 3 (cueBody 1)) voidHead).exe = axis.exe
    ∧ (after (.resume 7 3 (cueBody 1)) voidHead).flagSet .queueChange = true := by decide

/-- The loop has opened while the segment waits. -/
def openedAt (s : State) : State := { s with drive := { s.drive with loopRaw := false, loopSince := some 0 } }

theorem test_trip_before_move : (openedAt (waiting .gated false)).loopDue.isSome = true
    ∧ (openedAt (waiting .gated false)).drive.loopClosed = true
    ∧ (after .loopOpening (openedAt (waiting .gated false))).exe.motion = .idle
    ∧ (after .loopOpening (openedAt (waiting .gated false))).cue.freeze = .stop
    ∧ (after .loopOpening (openedAt (waiting .claiming true))).exe.motion = .idle
    ∧ (after .loopOpening (openedAt (waiting .claiming false))).exe.awaiting = .withdraw
    ∧ (after .loopOpening (openedAt axis)).cue = axis.cue := by decide

end Sys2Proof.Tests
end

