-- ==== Sys2Proof/Proofs/Geometry.lean ====
section
/-! The fly tower model of chapter 1: what each relation between bands and claims says, what a valid station record bounds,
and the order by rank. -/

namespace Sys2Proof.Machine

/-! ### The relations between bands (R9) and the overlap of claims (R10) -/

theorem Band.intersects_iff (a b : Band) : a.intersects b = true ↔ a.lo ≤ b.hi ∧ b.lo ≤ a.hi := by
  simp [Band.intersects]

theorem Band.intersects_comm (a b : Band) : a.intersects b = b.intersects a := by
  simp [Band.intersects, Bool.and_comm]

theorem Band.inside_iff (a b : Band) : a.inside b = true ↔ b.lo ≤ a.lo ∧ a.hi ≤ b.hi := by
  simp [Band.inside]

/-- The four ways in which R9 lets two bands cover a third. -/
theorem Band.covered_iff_edges (a b c : Band) : a.covered b c = true ↔
    (b.lo ≤ a.lo ∧ a.hi ≤ b.hi) ∨ (c.lo ≤ a.lo ∧ a.hi ≤ c.hi)
    ∨ (b.lo ≤ a.lo ∧ c.lo ≤ b.hi + 1 ∧ a.hi ≤ c.hi) ∨ (c.lo ≤ a.lo ∧ b.lo ≤ c.hi + 1 ∧ a.hi ≤ b.hi) := by
  simp [Band.covered, Band.inside, and_assoc, or_assoc]

/-- The edge conditions of R9 leave no integer of the band out. Conversely, the two edges of the band and the first integer
beyond each of the other two decide which edge condition holds. -/
theorem Band.covered_iff_points (a b c : Band) (nonempty : a.lo ≤ a.hi) : a.covered b c = true ↔
    ∀ x, a.lo ≤ x → x ≤ a.hi → (b.lo ≤ x ∧ x ≤ b.hi) ∨ (c.lo ≤ x ∧ x ≤ c.hi) := by
  rw [Band.covered_iff_edges]
  constructor
  · intro edges x above below
    omega
  · intro points
    have low := points a.lo (Int.le_refl _) nonempty
    have high := points a.hi nonempty (Int.le_refl _)
    have beyondB := points (b.hi + 1)
    have beyondC := points (c.hi + 1)
    omega

theorem Claim.overlaps_iff (c d : Claim) : c.overlaps d = true ↔
    c.owner ≠ d.owner ∧ c.depth.intersects d.depth = true ∧ c.vertical.intersects d.vertical = true := by
  simp [Claim.overlaps, and_assoc]

theorem Claim.overlaps_comm (c d : Claim) : c.overlaps d = d.overlaps c := by
  rw [Bool.eq_iff_iff, Claim.overlaps_iff, Claim.overlaps_iff, ne_comm, Band.intersects_comm c.depth,
    Band.intersects_comm c.vertical]

/-- Overlap reads owner, depth and vertical band alone. -/
theorem Claim.overlaps_congr {c c' d d' : Claim} (owner : c'.owner = c.owner) (depth : c'.depth = c.depth)
    (vertical : c'.vertical = c.vertical) (owner' : d'.owner = d.owner) (depth' : d'.depth = d.depth)
    (vertical' : d'.vertical = d.vertical) : c'.overlaps d' = c.overlaps d := by
  rw [Bool.eq_iff_iff, Claim.overlaps_iff, Claim.overlaps_iff, owner, depth, vertical, owner', depth', vertical']

theorem Claim.not_overlaps_of_owner_eq {c d : Claim} (h : c.owner = d.owner) : c.overlaps d = false :=
  Bool.eq_false_iff.2 fun overlap => ((c.overlaps_iff d).1 overlap).1 h

theorem Claim.not_overlaps_of_depth_apart {c d : Claim} (h : c.depth.intersects d.depth = false) :
    c.overlaps d = false :=
  Bool.eq_false_iff.2 fun overlap => Bool.eq_false_iff.1 h ((c.overlaps_iff d).1 overlap).2.1

/-- Settles O51, from one lemma for each relation. -/
theorem bandsAndOverlap : Obligations.BandsAndOverlap := by
  refine ⟨fun a b => ⟨a.intersects_iff b, a.intersects_comm b, a.inside_iff b, ?_, ?_⟩, Band.covered_iff_points,
    fun c d => ⟨c.overlaps_iff d, c.overlaps_comm d, fun c' d' => Claim.overlaps_congr,
      Claim.not_overlaps_of_owner_eq, Claim.not_overlaps_of_depth_apart⟩⟩
  · exact (a.inside_iff a).2 ⟨Int.le_refl _, Int.le_refl _⟩
  · intro ha hb touch
    exact (a.intersects_iff b).2 ⟨by omega, by omega⟩

/-! ### What a valid AXIS record says of its geometry (R169, R171) -/

theorem ConfigStore.validate_eq_none_iff (c : ConfigStore) :
    c.validate = none ↔ ∀ pos ∈ c.checkedFields, c.fieldFault pos = none := by
  simp [ConfigStore.validate, List.findSome?_eq_none_iff]

/-- A field without a fault has passed both of its checks. -/
theorem ConfigStore.checks_of_fieldFault_eq_none {c : ConfigStore} {pos : Nat} (h : c.fieldFault pos = none) :
    c.inRange pos = true ∧ c.related pos = true := by
  unfold ConfigStore.fieldFault at h
  split at h
  · cases h
  · split at h
    · cases h
    · next range =>
      split at h
      · cases h
      · next relation =>
        simp only [Bool.not_eq_true', Bool.not_eq_false] at range relation
        exact ⟨range, relation⟩

theorem ConfigStore.checkedFields_of_axis {c : ConfigStore} (axis : c.role = .axis) :
    c.checkedFields = checkedForAxis := by
  unfold ConfigStore.role at axis
  unfold ConfigStore.checkedFields
  split at axis
  · cases axis
  · next h => rw [if_neg h]

/-- In a valid record of an AXIS every field but the own rank has passed its checks. -/
theorem ConfigStore.checks_of_valid_axis {c : ConfigStore} (valid : c.validate = none) (axis : c.role = .axis) {pos : Nat}
    (checked : pos ∈ checkedForAxis) : c.inRange pos = true ∧ c.related pos = true :=
  checks_of_fieldFault_eq_none (c.validate_eq_none_iff.1 valid pos (checkedFields_of_axis axis ▸ checked))

/-- The bounds of R169 on the fields that the bands of chapter 1 are built from. -/
structure ConfigStore.GeometryBounded (c : ConfigStore) : Prop where
  slot : c.slot ≤ 127
  front : c.front ≤ 15
  rear : c.rear ≤ 15
  drop : c.drop ≤ 25000
  top : c.top ≤ 5000
  margin : c.margin ≤ 2000
  softLow : c.drop + c.margin ≤ c.softLow

theorem ConfigStore.geometryBounded_of_valid_axis {c : ConfigStore} (valid : c.validate = none) (axis : c.role = .axis) :
    c.GeometryBounded := by
  have range {pos : Nat} (checked : pos ∈ checkedForAxis) : c.inRange pos = true := (checks_of_valid_axis valid axis checked).1
  have relation : c.related 9 = true := (checks_of_valid_axis valid axis (by decide)).2
  have slot := range (pos := 3) (by decide)
  have front := range (pos := 4) (by decide)
  have rear := range (pos := 5) (by decide)
  have drop := range (pos := 6) (by decide)
  have top := range (pos := 7) (by decide)
  have margin := range (pos := 8) (by decide)
  simp only [ConfigStore.inRange, ConfigStore.related, within, Bool.and_eq_true, decide_eq_true_eq] at *
  constructor <;> omega

/-! ### The bands of a station (R5 to R8) -/

theorem depthBand_eq (slot front rear : Nat) : depthBand slot front rear =
    ⟨if slot < front then 0 else slot - front, if 127 < slot + rear then 127 else slot + rear⟩ := by
  unfold depthBand
  congr 1 <;> split <;> omega

/-- A depth band holds its slot and is no wider than 31 slots. -/
theorem State.ownDepth_bounds {s : State} (bounded : s.cfg.GeometryBounded) :
    s.ownDepth.lo ≤ s.cfg.slot ∧ (s.cfg.slot : Int) ≤ s.ownDepth.hi ∧ s.ownDepth.hi - s.ownDepth.lo + 1 ≤ 31 := by
  obtain ⟨slot, front, rear, -, -, -, -⟩ := bounded
  simp only [State.ownDepth, depthBand]
  omega

/-- At a height of the tower the occupied band keeps to the range of a vertical band (R14), and from the low soft limit on it
stays above the floor. -/
theorem State.ownOccupied_bounds {s : State} (bounded : s.cfg.GeometryBounded) {h : Nat} (height : h ≤ 40000) :
    -27000 ≤ (s.ownOccupied h).lo ∧ (s.ownOccupied h).hi ≤ 47000 ∧ (s.cfg.softLow ≤ h → 0 ≤ (s.ownOccupied h).lo) := by
  obtain ⟨-, -, -, drop, top, margin, softLow⟩ := bounded
  simp only [State.ownOccupied, occupiedBand]
  omega

theorem State.sweepBand_of_le (s : State) {h k : Nat} (le : h ≤ k) :
    s.sweepBand h k = ⟨(s.ownOccupied h).lo, (s.ownOccupied k).hi⟩ := by
  simp [State.sweepBand, le]

theorem State.sweepBand_comm (s : State) (h k : Nat) : s.sweepBand k h = s.sweepBand h k := by
  simp [State.sweepBand, Nat.min_comm, Nat.max_comm]

theorem State.sweepBand_self (s : State) (h : Nat) : s.sweepBand h h = s.ownOccupied h := by
  simp [State.sweepBand]

/-- A move between two heights stays inside their sweep band. -/
theorem State.ownOccupied_inside_sweepBand (s : State) {h m k : Nat} (above : h ≤ m) (below : m ≤ k) :
    (s.ownOccupied m).inside (s.sweepBand h k) = true := by
  rw [Band.inside_iff, s.sweepBand_of_le (Nat.le_trans above below)]
  simp only [State.ownOccupied, occupiedBand]
  omega

theorem State.standingBand_of_height {s : State} {h : Nat} (height : s.actualHeight = some h) :
    s.standingBand = s.ownOccupied h := by
  simp [State.standingBand, height]

theorem State.standingBand_of_no_height {s : State} (height : s.actualHeight = none) :
    s.standingBand = s.fullColumnBand := by
  simp [State.standingBand, height]

/-! ### Companions and conflict (R11, R12) -/

theorem State.areCompanions_iff (s : State) (a b : Nat) :
    s.areCompanions a b = true ↔ a ≠ b ∧ b ∈ s.companionsOf a ∧ a ∈ s.companionsOf b := by
  simp [State.areCompanions, and_assoc]

/-- Companions are read for an AXIS alone: for this station from its record, for another from its directory entry. -/
theorem State.mem_companionsOf_iff (s : State) (n m : Nat) : m ∈ s.companionsOf n ↔
    (n = s.number ∧ s.cfg.role = .axis ∧ m ∈ s.cfg.companions)
    ∨ (n ≠ s.number ∧ ∃ e, s.entry n = some e ∧ e.record.role = .axis ∧ m ∈ e.record.companions) := by
  unfold State.companionsOf State.isAxis
  by_cases own : n = s.number
  · by_cases axis : s.cfg.role = .axis <;> simp [← own, axis]
  · cases found : s.entry n with
    | none => simp [own]
    | some e => by_cases axis : e.record.role = .axis <;> simp [own, axis]

theorem State.conflict_iff (s : State) (c d : Claim) :
    s.conflict c d = true ↔ c.overlaps d = true ∧ s.areCompanions c.owner d.owner = false := by
  simp [State.conflict]

/-! ### Rank (R13) -/

theorem Claim.ranksAbove_iff (c d : Claim) : c.ranksAbove d = true ↔
    d.precedence < c.precedence ∨ (c.precedence = d.precedence ∧ c.owner < d.owner) := by
  simp [Claim.ranksAbove, eq_comm (a := d.precedence)]

theorem Claim.ranksAbove_irrefl (c : Claim) : c.ranksAbove c = false := by
  rw [Bool.eq_false_iff, Ne, Claim.ranksAbove_iff]
  omega

theorem Claim.ranksAbove_trans {c d e : Claim} (cd : c.ranksAbove d = true) (de : d.ranksAbove e = true) :
    c.ranksAbove e = true := by
  rw [Claim.ranksAbove_iff] at *
  omega

theorem Claim.ranksAbove_iff_not_ranksAbove {c d : Claim} (owners : c.owner ≠ d.owner) :
    c.ranksAbove d = true ↔ ¬d.ranksAbove c = true := by
  rw [Claim.ranksAbove_iff, Claim.ranksAbove_iff]
  omega

theorem Claim.isHeld_of_not_isSweep {c : Claim} (standing : c.isSweep = false) : c.isHeld = true := by
  unfold Claim.isSweep at standing
  unfold Claim.isHeld
  split at standing
  · rfl
  · cases standing

theorem Claim.isSweep_of_isWaiting {c : Claim} (waiting : c.isWaiting = true) : c.isSweep = true := by
  cases kind : c.isSweep with
  | true => rfl
  | false => simp [Claim.isWaiting, Claim.isHeld_of_not_isSweep kind] at waiting

/-- Inserting by rank adds one claim and loses none. -/
theorem insertByRank_perm (x : Nat × Claim) (t : Table) : (insertByRank x t).Perm (x :: t) := by
  induction t with
  | nil => exact .refl _
  | cons y ys ih =>
    unfold insertByRank
    split
    · exact .refl _
    · exact (ih.cons y).trans (.swap x y ys)

/-- The list by rank holds the WAITING claims of the table and nothing else. -/
theorem Table.waitingByRank_perm (t : Table) : t.waitingByRank.Perm (t.filter fun (_, c) => c.isWaiting) := by
  unfold Table.waitingByRank
  generalize t.filter (fun (_, c) => c.isWaiting) = waiting
  induction waiting with
  | nil => exact .refl _
  | cons x xs ih => exact (insertByRank_perm x _).trans (ih.cons x)

theorem Table.mem_waitingByRank_iff (t : Table) (x : Nat × Claim) :
    x ∈ t.waitingByRank ↔ x ∈ t ∧ x.2.isWaiting = true := by
  rw [t.waitingByRank_perm.mem_iff, List.mem_filter]

/-! ### The precedence a CLAIM brings (R139) -/

theorem parseClaimForm_precedence_le {stateRead : Bool} {kind state prec cueHi cueLo index : Byte} {form : ClaimForm}
    (h : parseClaimForm stateRead kind state prec cueHi cueLo index = some form) {st : ClaimState} {p cue i : Nat}
    (sweep : form = .sweep st p cue i) : p ≤ 7 := by
  subst sweep
  unfold parseClaimForm at h
  split at h
  · split at h <;> cases h
  · simp only at h
    split at h
    · next ranges =>
      simp only [Bool.and_eq_true, decide_eq_true_eq] at ranges
      obtain ⟨⟨bound, -⟩, -⟩ := ranges
      split at h <;> cases h <;> exact bound
    · cases h
  · cases h

/-- The form of a claim record is the one its bytes spell. -/
theorem parseClaim_precedence_le {stateRead : Bool} {body rest : List Byte} {r : ClaimRecord}
    (h : parseClaim stateRead body = some (r, rest)) {st : ClaimState} {p cue i : Nat} (sweep : r.form = .sweep st p cue i) :
    p ≤ 7 := by
  unfold parseClaim at h
  split at h
  · simp only at h
    split at h
    · next spelled =>
      split at h
      · cases h
        exact parseClaimForm_precedence_le spelled sweep
      · cases h
    · cases h
  · cases h

theorem parseClaimBody_precedence_le {body : List Byte} {depth vertical : Band} {p cue index : Nat}
    (h : parseClaimBody body = some (.claim depth vertical p cue index)) : p ≤ 7 := by
  unfold parseClaimBody at h
  split at h
  · next parsed =>
    cases h
    exact parseClaim_precedence_le parsed rfl
  · cases h

/-- Settles O52, from the lemmas on the bands, on companions and conflict, on rank, and on a CLAIM's form. -/
theorem bandsCompanionsAndRank : Obligations.BandsCompanionsAndRank := by
  refine ⟨fun s => ⟨depthBand_eq _ _ _, ?_, fun h => rfl, ?_, s.sweepBand_self, rfl, ?_, ?_, s.areCompanions_iff⟩,
    State.mem_companionsOf_iff, fun r h => ⟨depthBand_eq _ _ _, rfl⟩, State.conflict_iff, Claim.ranksAbove_iff,
    Claim.ranksAbove_irrefl, fun c d e => Claim.ranksAbove_trans, fun c d => Claim.ranksAbove_iff_not_ranksAbove,
    fun c => Claim.isHeld_of_not_isSweep, ?_, fun n body d v p cue index => parseClaimBody_precedence_le⟩
  · intro valid axis
    have bounded := ConfigStore.geometryBounded_of_valid_axis valid axis
    obtain ⟨low, high, width⟩ := State.ownDepth_bounds bounded
    exact ⟨low, high, width, fun h => State.ownOccupied_bounds bounded⟩
  · exact fun h k le => ⟨s.sweepBand_of_le le, s.sweepBand_comm h k, fun m => s.ownOccupied_inside_sweepBand⟩
  · exact fun h => State.standingBand_of_height
  · exact State.standingBand_of_no_height
  · exact fun t x mem => Claim.isSweep_of_isWaiting ((t.mem_waitingByRank_iff x).1 mem).2

end Sys2Proof.Machine
end

section
/-! The Peer Directory (chapter 3): the silence of a peer, the report period, and what a peer's STATUS does. -/

namespace Sys2Proof.Machine

/-! ### Queues in which nothing waits (R142, R144) -/

@[simp] theorem Transmitter.setQueue_queue_self (t : Transmitter) (c : FrameClass) : t.setQueue c (t.queue c) = t := by
  cases c <;> rfl

theorem TxQueue.eq_of_none_waiting {q : TxQueue} {places : List TxFrame} (places_eq : q.places = places)
    (waiting : q.waiting = []) : q = ⟨places, []⟩ := by
  rw [← places_eq, ← waiting]

/-- With nothing waiting there is nothing to move up. -/
theorem State.fillPlaces_of_none_waiting {s : State} {c : FrameClass} (waiting : (s.tx.queue c).waiting = []) :
    s.fillPlaces c = s := by
  have same : (⟨(s.tx.queue c).places, []⟩ : TxQueue) = s.tx.queue c := (TxQueue.eq_of_none_waiting rfl waiting).symm
  simp [State.fillPlaces, waiting, same]

/-- A frame the Transmitter takes into an empty class queue has its place at once. -/
theorem State.enqueue_of_empty {s : State} {f : TxFrame} (takes : s.takesFrames f.kind.cls = true)
    (empty : s.tx.queue f.kind.cls = ⟨[], []⟩) (origin : f.origin ≠ .mailbox) :
    s.enqueue f = { s with tx := s.tx.setQueue f.kind.cls ⟨[f], []⟩ } := by
  have place : 0 < f.kind.cls.capacity := by cases f.kind.cls <;> decide
  obtain ⟨places, capacity⟩ := Nat.exists_eq_add_of_lt place
  have overwrite (q : TxQueue) : (s.tx.setQueue f.kind.cls q).setQueue f.kind.cls ⟨[f], []⟩
      = s.tx.setQueue f.kind.cls ⟨[f], []⟩ := by cases f.kind.cls <;> rfl
  simp [State.enqueue, State.fillPlaces, takes, empty, capacity, origin, overwrite]

/-- The report queue's only frame, unsent, leaves it; a contest it was in ends (R144, R147). -/
theorem State.removeUnsent_only_report {s : State} {f : TxFrame} (only : s.tx.report = ⟨[f], []⟩) (unsent : f.inFlight = false) :
    s.removeUnsent .report (fun _ => true) = { s with tx := { s.tx with
      report := ⟨[], []⟩, state := if s.tx.state = .contest .report then .idle else s.tx.state } } := by
  have queue : s.tx.queue .report = ⟨[f], []⟩ := only
  unfold State.removeUnsent
  dsimp only
  rw [State.fillPlaces_of_none_waiting (by simp [only, Transmitter.queue, Transmitter.setQueue])]
  simp [queue, unsent, State.contestingOne, Transmitter.setQueue]

/-! ### The timers of the directory (R53, R55, R57) -/

theorem State.queueStatus_of_empty {s : State} (onBus : s.stop.mode.onBus = true) (single : s.stop.duplicate = false)
    (empty : s.tx.report = ⟨[], []⟩) : s.queueStatus = { s with tx := { s.tx with
      report := ⟨[⟨.status, .reporter, some s.buildStatus.encode, false⟩], []⟩ } } :=
  State.enqueue_of_empty (by simp [State.takesFrames, onBus, single]) empty (by simp [freshFrame])

theorem State.produceStatus_of_empty {s : State} (onBus : s.stop.mode.onBus = true) (single : s.stop.duplicate = false)
    (empty : s.tx.report = ⟨[], []⟩) : s.produceStatus = { s with tx := { s.tx with
      report := ⟨[⟨.status, .reporter, some s.buildStatus.encode, false⟩], []⟩ } } := by
  simp only [State.produceStatus, empty]
  exact State.queueStatus_of_empty onBus single empty

theorem State.produceStatus_of_unsent {s : State} {f : TxFrame} (onBus : s.stop.mode.onBus = true)
    (single : s.stop.duplicate = false) (only : s.tx.report = ⟨[f], []⟩) (unsent : f.inFlight = false) :
    s.produceStatus = { s with
      tx := { s.tx with
        report := ⟨[⟨.status, .reporter, some s.buildStatus.encode, false⟩], []⟩
        state := if s.tx.state = .contest .report then .idle else s.tx.state }
      counters := s.counters.set 7 (saturate16 (s.counter .reportReplaced) 1) } := by
  simp only [State.produceStatus, only, unsent, Bool.false_eq_true, if_false, State.removeUnsent_only_report only unsent]
  exact State.queueStatus_of_empty onBus single rfl

theorem State.produceStatus_of_inFlight {s : State} {f : TxFrame} {rest : List TxFrame} (head : s.tx.report.places = f :: rest)
    (flies : f.inFlight = true) : s.produceStatus = { s with dir := { s.dir with reportDue := true } } := by
  simp [State.produceStatus, head, flies]

/-- The station whose report period has run out, with the timer restarted (R55). -/
def State.periodRestarted (s : State) (due : Nat) : State :=
  { s.advanceTo due with dir := { s.dir with reportDueAt := some (due + 1000 * s.cfg.reportPeriod) } }

theorem exec_reportPeriod {s : State} {due : Nat} (runs : s.dir.reportDueAt = some due) :
    exec .reportPeriod s = .next (s.periodRestarted due).produceStatus := by
  simp only [exec, execReportPeriod, runs]
  rfl

theorem exec_silence_of_present {s : State} {n : BitVec 7} {e : Entry} (found : s.entry n.toNat = some e)
    (present : e.present = true) :
    exec (.silence n) s = .next ((s.advanceTo (e.ageFrom + 1000 * s.cfg.silenceLimit)).silence n.toNat) := by
  simp [exec, execSilence, found, State.silenceDue, present, msec]

theorem exec_silence_of_not_due {s : State} {n : BitVec 7} (still : (s.entry n.toNat).bind s.silenceDue = none) :
    exec (.silence n) s = .next s := by
  simp [exec, execSilence, still]

/-- Settles O26, from what SILENCE does to a PRESENT entry and what the reporter does in each state of its queue. -/
theorem directoryTimers : Obligations.DirectoryTimers := by
  refine ⟨fun s n => ⟨fun e found present => exec_silence_of_present found present, fun absent => ?_, fun e found silent => ?_⟩,
    fun s => ⟨fun stopped => ?_, fun due runs onBus single waiting => ⟨fun free => ?_, fun f only unsent => ?_,
      fun f rest head flies => ?_⟩⟩⟩
  · exact exec_silence_of_not_due (by simp [absent])
  · exact exec_silence_of_not_due (by simp [found, State.silenceDue, silent])
  · simp [exec, execReportPeriod, stopped]
  · have empty := TxQueue.eq_of_none_waiting free waiting
    rw [exec_reportPeriod runs, State.produceStatus_of_empty (s := s.periodRestarted due) onBus single empty]
    rfl
  · have one := TxQueue.eq_of_none_waiting only waiting
    rw [exec_reportPeriod runs, State.produceStatus_of_unsent (s := s.periodRestarted due) onBus single one unsent]
    rfl
  · rw [exec_reportPeriod runs, State.produceStatus_of_inFlight (s := s.periodRestarted due) head flies]
    rfl

/-! ### A peer's frame on its way to the block that takes it (R140) -/

/-- A misfiled frame ahead is the only thing that the decoder would discard first. -/
theorem State.discardMisfiled_of_none_misfiled {s : State} (next : s.misfiledNext = false) : s.discardMisfiled = s := by
  cases inbox : s.dec.inbox with
  | nil => rw [State.discardMisfiled, inbox, State.discardFrom, ← inbox]
  | cons f rest =>
    cases f with
    | none => simp [State.misfiledNext, inbox] at next
    | some f => rw [State.discardMisfiled, inbox, State.discardFrom, ← inbox]

theorem State.hears_iff (s : State) (source : BitVec 7) : s.hears source = true ↔
    s.stop.mode.onBus = true ∧ s.misfiledNext = false ∧ stationInRange source.toNat = true ∧ source.toNat ≠ s.number := by
  simp [State.hears, and_assoc]

/-- A frame the station hears leaves the inbox and goes to steps 3 and 4 of R140 as a peer's. -/
theorem State.takeFrame_of_hears {s : State} {source : BitVec 7} (hears : s.hears source = true) (k : Kind) (rank : BitVec 2)
    (body : List Byte) : s.takeFrame k source rank body
      = (s.takenFromInbox ⟨k, source, rank, body⟩).checkAndHandOn k .peer source.toNat rank.toNat body := by
  obtain ⟨onBus, next, range, other⟩ := (s.hears_iff source).1 hears
  have number : (s.takenFromInbox ⟨k, source, rank, body⟩).number = s.number := by simp [State.number]
  simp [State.takeFrame, State.discardMisfiled_of_none_misfiled next, onBus, range, number, other]

theorem State.takenFromInbox_eq (s : State) (f : AcceptedFrame) :
    s.takenFromInbox f = { s with dec := (s.takenFromInbox f).dec } := by
  unfold State.takenFromInbox
  split
  · split <;> rfl
  · rfl
  · rfl

@[simp] theorem State.counter_takenFromInbox (s : State) (f : AcceptedFrame) (c : Counter) :
    (s.takenFromInbox f).counter c = s.counter c := by
  simp [State.counter]

@[simp] theorem State.entry_takenFromInbox (s : State) (f : AcceptedFrame) (n : Nat) :
    (s.takenFromInbox f).entry n = s.entry n := by
  simp [State.entry]

/-! ### Entries and what is read from them (R11, R44) -/

theorem State.entry_number {s : State} {n : Nat} {e : Entry} (found : s.entry n = some e) : e.number = n := by
  simpa using List.find?_some found

theorem State.entry_mapEntry (s : State) (n m : Nat) {g : Entry → Entry} (number : ∀ e, (g e).number = e.number) :
    (s.mapEntry n g).entry m = (s.entry m).map fun e => if e.number = n then g e else e := by
  have same : ((fun e : Entry => e.number == m) ∘ fun e => if e.number = n then g e else e) = fun e => e.number == m := by
    funext e
    rw [Function.comp_apply]
    split
    · rw [number]
    · rfl
  unfold State.entry State.mapEntry
  rw [List.find?_map, same]

/-- The companions of another station are read from its entry's record, and from nothing else of the entry (R4, R11). -/
theorem State.companionsOf_eq (s : State) (n : Nat) : s.companionsOf n =
    if n = s.number then (if s.isAxis then s.cfg.companions else [])
    else ((s.entry n).map (·.record)).elim [] fun d => if d.role = .axis then d.companions else [] := by
  unfold State.companionsOf
  cases s.entry n <;> rfl

theorem State.areCompanions_congr {s t : State} (cfg : t.cfg = s.cfg)
    (records : ∀ m, (t.entry m).map (·.record) = (s.entry m).map (·.record)) (a b : Nat) :
    t.areCompanions a b = s.areCompanions a b := by
  have lists (m : Nat) : t.companionsOf m = s.companionsOf m := by
    rw [State.companionsOf_eq, State.companionsOf_eq, records, State.number, State.isAxis, cfg]
    rfl
  simp only [State.areCompanions, lists]

/-! ### A report entered in the directory (R51, R52) -/

/-- The directory after a report `r` of station `n` at the moment `now`. -/
def PeerDirectory.renewed (d : PeerDirectory) (n : Nat) (r : StatusReport) (now : Nat) : PeerDirectory :=
  { d with entries := d.entries.map fun x =>
      if x.number = n then { x with lastStatus := some r, ageFrom := now, present := true } else x }

/-- The station with the report entered: DIRECTORY CHANGE is set where the entry `e` was SILENT. -/
def State.renewed (s : State) (n : Nat) (r : StatusReport) (e : Entry) : State :=
  { s with
    dir := s.dir.renewed n r s.now
    port := { s.port with flags := if e.present then s.port.flags else s.port.flags ||| 0x0100 } }

theorem State.enterStatus_of_entry {s : State} {n : Nat} {e : Entry} (found : s.entry n = some e) (r : StatusReport) :
    s.enterStatus n r = s.renewed n r e := by
  unfold State.enterStatus
  rw [found]
  cases present : e.present <;> simp [State.renewed, present] <;> rfl

/-- The entry of the report's source after it. -/
def Entry.renewed (e : Entry) (r : StatusReport) (now : Nat) : Entry :=
  { e with lastStatus := some r, ageFrom := now, present := true }

theorem State.entry_renewed (s : State) (n m : Nat) (r : StatusReport) (e : Entry) :
    (s.renewed n r e).entry m = (s.entry m).map fun x => if x.number = n then x.renewed r s.now else x :=
  s.entry_mapEntry n m (g := fun x => x.renewed r s.now) fun _ => rfl

theorem State.entry_renewed_same {s : State} {n : Nat} {e : Entry} (found : s.entry n = some e) (r : StatusReport) :
    (s.renewed n r e).entry n = some (e.renewed r s.now) := by
  simp [State.entry_renewed, found, State.entry_number found]

/-- A report leaves every record as it was, and so it leaves the companions. -/
theorem State.areCompanions_renewed (s : State) (n : Nat) (r : StatusReport) (e : Entry) (a b : Nat) :
    (s.renewed n r e).areCompanions a b = s.areCompanions a b := by
  refine State.areCompanions_congr (s := s) (t := s.renewed n r e) rfl (fun m => ?_) a b
  rw [State.entry_renewed]
  cases s.entry m with
  | none => rfl
  | some x => by_cases own : x.number = n <;> simp [own, Entry.renewed]

/-! ### What a report sets off (R51, R87, R121) -/

/-- No report of station `n` is for the gate: the executor is not GATED, its latch is set, or its gate names another peer (R87). -/
def State.gateIgnores (s : State) (n : Nat) : Prop :=
  s.exe.motion ≠ .gated ∨ s.exe.gateLatch = true ∨ ∀ g, s.exe.segment = some g → g.gate.map (·.peer) ≠ some n

theorem State.gateReport_of_ignored {s : State} {n : Nat} (ignored : s.gateIgnores n) : s.gateReport n = s := by
  unfold State.gateReport
  cases segment : s.exe.segment with
  | none => rfl
  | some g =>
    rcases ignored with motion | latch | peer
    · simp [motion]
    · simp [latch]
    · simp [peer g segment]

theorem State.handOnReport_of_desk {s : State} (desk : s.cfg.role = .desk) (n : Nat) (r : StatusReport) :
    s.handOnReport n r = s := by
  simp [State.handOnReport, State.isAxis, desk]

/-- The watch looks at reports of AXIS stations alone. -/
theorem State.handOnReport_of_desk_entry {s : State} {n : Nat} {e : Entry} (found : s.entry n = some e)
    (desk : e.record.role = .desk) (ignored : s.gateIgnores n) (r : StatusReport) : s.handOnReport n r = s := by
  simp [State.handOnReport, found, desk, State.gateReport_of_ignored ignored]

theorem State.handOnReport_of_axes {s : State} {n : Nat} {e : Entry} (axis : s.cfg.role = .axis) (other : n ≠ s.number)
    (found : s.entry n = some e) (peer : e.record.role = .axis) (r : StatusReport) :
    s.handOnReport n r = (s.watchReport e r).gateReport n := by
  simp [State.handOnReport, State.isAxis, axis, other, found, peer]

theorem Mode.running_iff (m : Mode) : m.running = true ↔ m.onBus = true ∧ m ≠ .stopped := by
  cases m <;> decide

theorem State.controlledStop_of_running {s : State} (axis : s.cfg.role = .axis) (running : s.stop.mode.running = true)
    (cause : StopCause) (source : Option Nat) :
    s.controlledStop cause source = (s.openEpisode cause source).executorStop := by
  cases mode : s.stop.mode <;> simp [mode, Mode.running] at running <;> simp [State.controlledStop, State.isAxis, axis, mode]

theorem State.controlledStop_of_stopped {s : State} (axis : s.cfg.role = .axis) (stopped : s.stop.mode = .stopped)
    (cause : StopCause) (source : Option Nat) : s.controlledStop cause source = s.addCause.executorStop := by
  simp [State.controlledStop, State.isAxis, axis, stopped]

theorem State.openEpisode_stop (s : State) (cause : StopCause) (source : Option Nat) : (s.openEpisode cause source).stop
    = { s.stop with mode := .stopped, record := some (s.episode cause source) } := by
  simp [State.openEpisode]

/-- An emptied record has no further causes to add to (R125, R126). -/
theorem State.addCause_stop (s : State) : s.addCause.stop
    = { s.stop with record := s.stop.record.map fun r => { r with further := min 65535 (r.further + 1) } } := by
  unfold State.addCause
  cases record : s.stop.record with
  | none => exact congrArg (fun x => { s.stop with record := x }) record
  | some _ => rfl

/-- A controlled stop leaves the station STOPPED, with the episode's record or one further cause (R107, R110, R125). -/
theorem State.controlledStop_stop {s : State} (axis : s.cfg.role = .axis) (onBus : s.stop.mode.onBus = true) (cause : StopCause)
    (source : Option Nat) : (s.controlledStop cause source).stop
      = { s.stop with mode := .stopped, record := s.recordAfter cause source } := by
  by_cases stopped : s.stop.mode = .stopped
  · rw [State.controlledStop_of_stopped axis stopped, State.recordAfter, if_pos stopped, ← stopped]
    simp [State.addCause_stop]
  · rw [State.controlledStop_of_running axis ((Mode.running_iff _).2 ⟨onBus, stopped⟩), State.recordAfter, if_neg stopped]
    simp [State.openEpisode_stop]

/-- The premises of R121 on a report: both heights known, the two no companions, the entry PRESENT and the depths meeting. -/
structure State.Watched (s : State) (e : Entry) (r : StatusReport) (theirs ours : Nat) : Prop where
  onBus : s.stop.mode.onBus = true
  theirs : r.height = some theirs
  ours : s.actualHeight = some ours
  strangers : s.areCompanions s.number e.number = false
  present : e.present = true
  depth : e.record.depthBand.intersects s.ownDepth = true

theorem State.watchReport_of_watched {s : State} {e : Entry} {r : StatusReport} {theirs ours : Nat}
    (watched : s.Watched e r theirs ours) : s.watchReport e r = s.watchTests e r theirs ours := by
  obtain ⟨onBus, hTheirs, hOurs, strangers, present, depth⟩ := watched
  simp [State.watchReport, State.watchHeights, hTheirs, hOurs, onBus, strangers, present, depth]

/-- Of the watch's tests only loads that meet change the Stop Controller. -/
theorem State.watchTests_stop (s : State) (e : Entry) (r : StatusReport) (theirs ours : Nat) :
    (s.watchTests e r theirs ours).stop
      = if s.loadsMeet e theirs ours then (s.controlledStop .proximity (some e.number)).stop else s.stop := by
  unfold State.watchTests
  dsimp only
  split <;> split <;> simp

/-- Loads that meet stop the AXIS with cause PROXIMITY and the peer as source (R121, R125). -/
theorem State.handOnReport_stop_of_meet {s : State} {n : Nat} {e : Entry} {r : StatusReport} {theirs ours : Nat}
    (axis : s.cfg.role = .axis) (other : n ≠ s.number) (found : s.entry n = some e) (peer : e.record.role = .axis)
    (watched : s.Watched e r theirs ours) (meet : s.loadsMeet e theirs ours = true) :
    (s.handOnReport n r).stop = { s.stop with mode := .stopped, record := s.recordAfter .proximity (some n) } := by
  have gate (t : State) : (t.gateReport n).stop = t.stop := by simp
  rw [State.handOnReport_of_axes axis other found peer, State.watchReport_of_watched watched, gate, State.watchTests_stop,
    if_pos meet, State.controlledStop_stop axis watched.onBus, State.entry_number found]

/-! ### A source without an entry (R19, R33, R52) -/

theorem State.counter_bump_same (s : State) (c : Counter) : (s.bump c).counter c = saturate16 (s.counter c) 1 :=
  s.counter_count_same c 1

theorem State.counter_bump_other (s : State) {c d : Counter} (h : c.number ≠ d.number) : (s.bump c).counter d = s.counter d :=
  s.counter_count_other c d 1 h

theorem State.suspicion_counters (s : State) : s.suspicion.counters = (s.bump .suspicion).counters := by
  unfold State.suspicion
  dsimp only
  split <;> simp

/-- A suspicion event makes a SOUND view SUSPECT and leaves the table (R33). -/
theorem State.suspicion_claims (s : State) : s.suspicion.claims
    = { s.claims with view := if s.claims.view = .sound then .suspect else s.claims.view } := by
  unfold State.suspicion
  cases view : s.claims.view <;> simp [view] <;> simp [← view]

theorem State.hasQueued_offerRequest {s : State} (takes : s.takesFrames .space = true) :
    s.offerRequest.hasQueued .restateRequest = true := by
  unfold State.offerRequest
  split
  · assumption
  · simp [State.hasQueued, State.enqueue_frames, freshFrame, Kind.cls, takes]

/-- A suspicion event asks for a RESTATE, unless the view is BLIND (R33). -/
theorem State.hasQueued_suspicion {s : State} (takes : s.takesFrames .space = true) (sighted : s.claims.view ≠ .blind) :
    s.suspicion.hasQueued .restateRequest = true := by
  have takes' (t : State) (stop : t.stop = s.stop) : t.takesFrames .space = true := by
    rw [← takes, State.takesFrames, State.takesFrames, stop]
  unfold State.suspicion
  cases view : s.claims.view with
  | sound => simpa [view] using State.hasQueued_offerRequest (takes' _ (by simp))
  | suspect => simpa [view] using State.hasQueued_offerRequest (takes' _ (by simp))
  | blind => exact absurd view sighted

theorem State.unknownSource_of_joining {s : State} (joining : s.stop.mode = .joining) :
    s.unknownSource = s.bump .unknownSource := by
  simp [State.unknownSource, joining]

theorem State.unknownSource_of_not_joining {s : State} (joined : s.stop.mode ≠ .joining) :
    s.unknownSource = (s.bump .unknownSource).suspicion := by
  simp [State.unknownSource, joined]

theorem State.unknownSource_counter_unknownSource (s : State) :
    s.unknownSource.counter .unknownSource = saturate16 (s.counter .unknownSource) 1 := by
  by_cases joining : s.stop.mode = .joining
  · rw [State.unknownSource_of_joining joining, State.counter_bump_same]
  · rw [State.unknownSource_of_not_joining joining, State.counter, State.suspicion_counters, ← State.counter,
      State.counter_bump_other _ (by decide), State.counter_bump_same]

theorem State.unknownSource_counter_suspicion (s : State) : s.unknownSource.counter .suspicion
    = if s.stop.mode = .joining then s.counter .suspicion else saturate16 (s.counter .suspicion) 1 := by
  by_cases joining : s.stop.mode = .joining
  · rw [State.unknownSource_of_joining joining, if_pos joining, State.counter_bump_other _ (by decide)]
  · rw [State.unknownSource_of_not_joining joining, if_neg joining, State.counter, State.suspicion_counters, ← State.counter,
      State.counter_bump_same, State.counter_bump_other _ (by decide)]

theorem State.unknownSource_claims (s : State) : s.unknownSource.claims = { s.claims with
    view := if s.stop.mode ≠ .joining ∧ s.claims.view = .sound then .suspect else s.claims.view } := by
  by_cases joining : s.stop.mode = .joining
  · simp [State.unknownSource_of_joining, joining]
  · by_cases sound : s.claims.view = .sound <;>
      simp [State.unknownSource_of_not_joining, State.suspicion_claims, joining, sound]

theorem State.hasQueued_unknownSource {s : State} (joined : s.stop.mode ≠ .joining) (takes : s.takesFrames .space = true)
    (sighted : s.claims.view ≠ .blind) : s.unknownSource.hasQueued .restateRequest = true := by
  rw [State.unknownSource_of_not_joining joined]
  exact State.hasQueued_suspicion takes sighted

/-! ### The STATUS of a peer (R51, R52) -/

/-- The station that has taken the STATUS of a known peer from the inbox and entered the report. -/
def State.reported (s : State) (source : BitVec 7) (rank : BitVec 2) (body : List Byte) (r : StatusReport) (e : Entry) : State :=
  (s.takenFromInbox ⟨.status, source, rank, body⟩).renewed source.toNat r e

theorem State.reported_eq (s : State) (source : BitVec 7) (rank : BitVec 2) (body : List Byte) (r : StatusReport) (e : Entry) :
    s.reported source rank body r e = { s.takenFromInbox ⟨.status, source, rank, body⟩ with
      dir := s.dir.renewed source.toNat r s.now
      port := { s.port with flags := if e.present then s.port.flags else s.port.flags ||| 0x0100 } } := by
  rw [State.reported, State.takenFromInbox_eq]
  rfl

theorem State.takeFrame_status {s : State} {source : BitVec 7} {body : List Byte} {r : StatusReport}
    (hears : s.hears source = true) (parsed : parseBody .status source.toNat body = some (.status r)) (rank : BitVec 2) :
    s.takeFrame .status source rank body
      = (s.takenFromInbox ⟨.status, source, rank, body⟩).takeStatus .peer source.toNat r := by
  rw [State.takeFrame_of_hears hears, State.checkAndHandOn, parsed]
  rfl

theorem exec_status_of_entry {s : State} {source : BitVec 7} {body : List Byte} {r : StatusReport} {e : Entry}
    (hears : s.hears source = true) (parsed : parseBody .status source.toNat body = some (.status r))
    (found : s.entry source.toNat = some e) (rank : BitVec 2) : exec (.status source rank body) s
      = .next ((s.reported source rank body r e).handOnReport source.toNat r) := by
  have found' : (s.takenFromInbox ⟨.status, source, rank, body⟩).entry source.toNat = some e := by simpa using found
  simp [exec, execStatus, State.takeFrame_status hears parsed, State.takeStatus, found, State.enterStatus_of_entry found',
    State.reported]

theorem exec_status_of_no_entry {s : State} {source : BitVec 7} {body : List Byte} {r : StatusReport}
    (hears : s.hears source = true) (parsed : parseBody .status source.toNat body = some (.status r))
    (absent : s.entry source.toNat = none) (rank : BitVec 2) :
    exec (.status source rank body) s = .next (s.takenFromInbox ⟨.status, source, rank, body⟩).unknownSource := by
  simp [exec, execStatus, State.takeFrame_status hears parsed, State.takeStatus, absent, State.unknownReport]

/-- A report of a known peer that sets off neither the watch nor the gate is entered, and that is all. -/
theorem exec_status_of_not_handed_on {s : State} {source : BitVec 7} {rank : BitVec 2} {body : List Byte} {r : StatusReport}
    {e : Entry} (hears : s.hears source = true) (parsed : parseBody .status source.toNat body = some (.status r))
    (found : s.entry source.toNat = some e)
    (kept : (s.reported source rank body r e).handOnReport source.toNat r = s.reported source rank body r e) :
    exec (.status source rank body) s = .next { s.takenFromInbox ⟨.status, source, rank, body⟩ with
      dir := s.dir.renewed source.toNat r s.now
      port := { s.port with flags := if e.present then s.port.flags else s.port.flags ||| 0x0100 } } := by
  rw [exec_status_of_entry hears parsed found, kept, State.reported_eq]

/-- Loads that meet at a STATUS of an AXIS stop this AXIS with cause PROXIMITY. -/
theorem State.renewed_handOnReport_stop {s : State} {n : Nat} {e : Entry} {r : StatusReport} {theirs ours : Nat}
    (onBus : s.stop.mode.onBus = true) (other : n ≠ s.number) (found : s.entry n = some e) (axis : s.cfg.role = .axis)
    (peer : e.record.role = .axis) (hTheirs : r.height = some theirs) (hOurs : s.actualHeight = some ours)
    (strangers : s.areCompanions s.number n = false) (depth : e.record.depthBand.intersects s.ownDepth = true)
    (meet : (e.record.occupied theirs).intersects (s.ownOccupied ours) = true) :
    ((s.renewed n r e).handOnReport n r).stop
      = { s.stop with mode := .stopped, record := s.recordAfter .proximity (some n) } := by
  have watched : (s.renewed n r e).Watched (e.renewed r s.now) r theirs ours :=
    { onBus := onBus, theirs := hTheirs, ours := hOurs, present := rfl, depth := depth
      strangers := by
        rw [State.areCompanions_renewed]
        exact State.entry_number found ▸ strangers }
  exact State.handOnReport_stop_of_meet axis other (State.entry_renewed_same found r) peer watched meet

/-- Settles O45: entering the report, then the watch and the gate for a known peer, and the suspicion event for an unknown one. -/
theorem statusFromAPeer : Obligations.StatusFromAPeer := by
  refine ⟨fun s source rank body r e => ?_, fun s source rank body r hears parsed absent => ?_⟩
  · intro n hears parsed found
    obtain ⟨onBus, -, -, other⟩ := (s.hears_iff source).1 hears
    have found' : (s.reported source rank body r e).entry n = some (e.renewed r (s.takenFromInbox _).now) :=
      State.entry_renewed_same (by simpa using found) r
    refine ⟨fun desk => ?_, fun desk idle => ?_, _, exec_status_of_entry hears parsed found rank, ?_, ?_, ?_⟩
    · refine exec_status_of_not_handed_on hears parsed found (State.handOnReport_of_desk ?_ n r)
      simpa [State.reported_eq] using desk
    · refine exec_status_of_not_handed_on hears parsed found (State.handOnReport_of_desk_entry found' desk ?_ r)
      simpa [State.reported_eq, State.gateIgnores] using idle
    · simp [State.reported_eq, PeerDirectory.renewed, n]
    · intro theirs ours axis peer hTheirs hOurs strangers depth meet
      rw [State.reported, State.takenFromInbox_eq]
      exact State.renewed_handOnReport_stop (s := { s with dec := _ }) onBus other found axis peer hTheirs hOurs strangers
        depth meet
    · simp [State.reported_eq]
  · obtain ⟨onBus, -, -, -⟩ := (s.hears_iff source).1 hears
    refine ⟨_, exec_status_of_no_entry hears parsed absent rank, ?_, ?_, ?_, fun joined sighted single => ?_, by simp⟩
    · simp [State.unknownSource_counter_unknownSource]
    · simp [State.unknownSource_counter_suspicion]
    · simp [State.unknownSource_claims]
    · exact State.hasQueued_unknownSource (by simpa using joined) (by simp [State.takesFrames, onBus, single])
        (by simpa using sighted)

end Sys2Proof.Machine
end

section
/-! The Drive Port (chapter 7): the check of a feedback message, the tests of a feedback on a braked load, and what an immediate stop
leaves of the Stop Controller and of the drive's requests. -/

namespace Sys2Proof.Machine

/-! ### The check of a feedback message (R129, R135) -/

/-- Of the four codes in bits 3 and 4 only 3 names no brake state. -/
theorem brakeOf_isSome_iff (c : Byte) : (brakeOf c).isSome = true ↔ (c.getLsbD 3 && c.getLsbD 4) = false := by
  revert c
  decide

/-- The check of seven bytes, byte by byte. -/
theorem parseFeedback_of_seven (now : Nat) (k h₁ h₀ s₁ s₀ c sum : Byte) (f : Feedback) :
    parseFeedback now [k, h₁, h₀, s₁, s₀, c, sum] = some f ↔
      k = 3 ∧ k + h₁ + h₀ + s₁ + s₀ + c + sum = 0 ∧ (c.getLsbD 3 && c.getLsbD 4) = false
        ∧ (c.getLsbD 2 = true → 256 * h₁.toNat + h₀.toNat ≤ 40000)
        ∧ f = ⟨256 * h₁.toNat + h₀.toNat, (s₁ ++ s₀ : BitVec 16), c, now⟩ := by
  have first : k.toNat = 3 ↔ k = 3 := BitVec.toNat_inj (y := 3#8)
  have total : byteSum [k, h₁, h₀, s₁, s₀, c, sum] = k + h₁ + h₀ + s₁ + s₀ + c + sum := by simp [byteSum]
  simp only [parseFeedback, first, total, brakeOf_isSome_iff, Feedback.positionValid, nat16, word16, not_and, Nat.not_lt,
    Option.ite_none_right_eq_some, Option.some.injEq, and_assoc, eq_comm (b := f)]

/-- A message of another length fails. -/
theorem parseFeedback_length {now : Nat} {m : List Byte} {f : Feedback} (parsed : parseFeedback now m = some f) : m.length = 7 := by
  unfold parseFeedback at parsed
  split at parsed
  · rfl
  · cases parsed

theorem parseFeedback_iff (now : Nat) (m : List Byte) (f : Feedback) : parseFeedback now m = some f ↔
    ∃ h₁ h₀ s₁ s₀ c k : Byte, m = [3, h₁, h₀, s₁, s₀, c, k] ∧ 3 + h₁ + h₀ + s₁ + s₀ + c + k = 0
      ∧ (c.getLsbD 3 && c.getLsbD 4) = false ∧ (c.getLsbD 2 = true → 256 * h₁.toNat + h₀.toNat ≤ 40000)
      ∧ f = ⟨256 * h₁.toNat + h₀.toNat, (s₁ ++ s₀ : BitVec 16), c, now⟩ := by
  constructor
  · intro parsed
    match m, parseFeedback_length parsed with
    | [k, h₁, h₀, s₁, s₀, c, sum], _ =>
      obtain ⟨rfl, passes⟩ := (parseFeedback_of_seven ..).1 parsed
      exact ⟨h₁, h₀, s₁, s₀, c, sum, rfl, passes⟩
  · rintro ⟨h₁, h₀, s₁, s₀, c, k, rfl, passes⟩
    exact (parseFeedback_of_seven ..).2 ⟨rfl, passes⟩

/-! ### The row FEEDBACK (R129) -/

theorem exec_feedback_of_bad {s : State} {m : List Byte} (link : s.drive.linkOn = true) (bad : parseFeedback s.now m = none) :
    exec (.feedback m) s = .next (s.bump .feedbackBad) := by
  simp [exec, execFeedback, link, bad]

theorem exec_feedback_of_link_off {s : State} (off : s.drive.linkOn = false) (m : List Byte) :
    exec (.feedback m) s = .next s := by
  simp [exec, execFeedback, off]

theorem exec_feedback_of_good {s : State} {m : List Byte} {f : Feedback} (link : s.drive.linkOn = true)
    (parsed : parseFeedback s.now m = some f) : exec (.feedback m) s = .next (s.takeFeedback f) := by
  simp [exec, execFeedback, link, parsed]

/-! ### The tests of a feedback (R103, R132, R175) -/

theorem State.actualHeight_of_latest {s : State} {f : Feedback} (latest : s.drive.latest = some f)
    (live : s.drive.missing = false) : s.actualHeight = if f.positionValid then some f.height else none := by
  simp [State.actualHeight, State.liveFeedback, latest, live]

theorem State.measureSlip_of_applied {s : State} {f : Feedback} (applied : f.brake = some .applied) (gap : Nat) :
    s.measureSlip f gap = s.mapDrive fun d => { d with slip := .off } := by
  simp [State.measureSlip, applied]

theorem State.narrowColumn_of_narrow {s : State} (narrow : s.stop.fullColumn = false) : s.narrowColumn = s := by
  simp [State.narrowColumn, narrow]

theorem State.followingOff_of_no_setpoint {s : State} (free : s.exe.setpoint = none) : s.followingOff = false := by
  simp [State.followingOff, free]

theorem State.beyondLimits_of_inside {s : State} (inside : ∀ h, s.actualHeight = some h →
    s.cfg.softLow ≤ h + s.cfg.followLimit ∧ h ≤ s.cfg.softHigh + s.cfg.followLimit) : s.beyondLimits = false := by
  unfold State.beyondLimits
  cases height : s.actualHeight with
  | none => rfl
  | some h => simpa using inside h height

/-! No test of R103 reads the raised marks it may change. -/

@[simp] theorem State.followingOff_mapRaised (s : State) (g : RaisedMarks → RaisedMarks) :
    (s.mapRaised g).followingOff = s.followingOff := rfl

@[simp] theorem State.beyondLimits_mapRaised (s : State) (g : RaisedMarks → RaisedMarks) :
    (s.mapRaised g).beyondLimits = s.beyondLimits := rfl

@[simp] theorem State.mapRaised_mapRaised (s : State) (g k : RaisedMarks → RaisedMarks) :
    (s.mapRaised g).mapRaised k = s.mapRaised fun r => k (g r) := rfl

theorem State.testFollowing_of_ceased {s : State} (ceased : s.followingOff = false) :
    s.testFollowing = s.mapRaised fun r => { r with following := false } := by
  simp [State.testFollowing, ceased]

theorem State.testLimit_of_ceased {s : State} (ceased : s.beyondLimits = false) :
    s.testLimit = s.mapRaised fun r => { r with limit := false } := by
  simp [State.testLimit, ceased]

/-- Where the executor drives no load, the position mark only ever clears (R103). -/
theorem State.testPosition_of_not_driven {s : State} (still : s.exe.motion.driven = false) (f : Feedback) :
    s.testPosition f = s.mapRaised fun r => { r with position := !f.positionValid && r.position } := by
  cases valid : f.positionValid with
  | true => simp [State.testPosition, valid]
  | false =>
    have unraised : s.testPosition f = s := by simp [State.testPosition, still, valid]
    rw [unraised]
    rfl

/-- With no setpoint held, nothing driven and the height inside the limits, a feedback changes the raised marks alone (R103). -/
theorem State.executorTests_of_at_rest {s : State} {f : Feedback} (latest : s.drive.latest = some f)
    (live : s.drive.missing = false) (noSetpoint : s.exe.setpoint = none) (still : s.exe.motion.driven = false)
    (inside : f.positionValid = true →
      s.cfg.softLow ≤ f.height + s.cfg.followLimit ∧ f.height ≤ s.cfg.softHigh + s.cfg.followLimit) :
    s.executorTests f = s.mapRaised fun r =>
      { following := false, limit := false, position := !f.positionValid && r.position, standstill := false, brake := false } := by
  have within : s.beyondLimits = false := State.beyondLimits_of_inside fun h height => by
    rw [State.actualHeight_of_latest latest live, Option.ite_none_right_eq_some, Option.some.injEq] at height
    obtain ⟨valid, rfl⟩ := height
    exact inside valid
  have follows : s.followingOff = false := State.followingOff_of_no_setpoint noSetpoint
  simp [State.executorTests, State.testFollowing_of_ceased, State.testLimit_of_ceased, State.testPosition_of_not_driven,
    follows, within, still]

/-- In IDLE, DELAYING and CLAIMING the executor waits for no feedback. -/
theorem State.executorStep_of_waiting {s : State}
    (waits : s.exe.motion = .idle ∨ s.exe.motion = .delaying ∨ s.exe.motion = .claiming) (f : Feedback) :
    s.executorStep f = s := by
  rcases waits with motion | motion | motion <;> simp [State.executorStep, motion]

/-- A feedback at which no drive condition begins, the brake is applied and no full column is to be narrowed (R129). -/
theorem State.takeFeedback_of_applied {s : State} {f : Feedback} (begins : driveConditionBegins s.drive.latest f = false)
    (narrow : s.stop.fullColumn = false) (applied : f.brake = some .applied) :
    s.takeFeedback f
      = ((s.mapDrive fun d => { d with latest := some f, missing := false, slip := .off }).executorTests f).executorStep f := by
  simp only [State.takeFeedback, begins, Bool.false_eq_true, if_false, State.measureSlip_of_applied applied]
  rw [State.narrowColumn_of_narrow (by simpa using narrow)]
  rfl

/-! ### Immediate stops (R107, R113) -/

theorem State.immediateStop_of_running {s : State} (axis : s.cfg.role = .axis) (running : s.stop.mode.running = true)
    (cause : StopCause) : s.immediateStop cause = (s.openEpisode cause none).trip.executorTrip := by
  cases mode : s.stop.mode <;> simp [mode, Mode.running] at running <;> simp [State.immediateStop, State.isAxis, axis, mode]

theorem State.immediateStop_of_stopped {s : State} (axis : s.cfg.role = .axis) (stopped : s.stop.mode = .stopped)
    (cause : StopCause) : s.immediateStop cause = s.addCause.trip.executorTrip := by
  simp [State.immediateStop, State.isAxis, axis, stopped]

/-- An immediate stop leaves the station STOPPED, with the episode's record or one further cause (R113, R125). -/
theorem State.immediateStop_stop {s : State} (axis : s.cfg.role = .axis) (onBus : s.stop.mode.onBus = true) (cause : StopCause) :
    (s.immediateStop cause).stop = { s.stop with mode := .stopped, record := s.recordAfter cause none } := by
  by_cases stopped : s.stop.mode = .stopped
  · rw [State.immediateStop_of_stopped axis stopped, State.recordAfter, if_pos stopped, ← stopped]
    simp [State.addCause_stop]
  · rw [State.immediateStop_of_running axis ((Mode.running_iff _).2 ⟨onBus, stopped⟩), State.recordAfter, if_neg stopped]
    simp [State.openEpisode_stop]

/-- An immediate stop removes both requests, whatever the executor does (R113, R131). -/
theorem State.immediateStop_drive {s : State} (axis : s.cfg.role = .axis) (onBus : s.stop.mode.onBus = true) (cause : StopCause) :
    (s.immediateStop cause).drive = { s.drive with torqueReq := false, brakeReq := false } := by
  by_cases stopped : s.stop.mode = .stopped
  · simp [State.immediateStop_of_stopped axis stopped]
  · simp [State.immediateStop_of_running axis ((Mode.running_iff _).2 ⟨onBus, stopped⟩)]

/-- A later request in STOPPED keeps the cause on record (R125). -/
theorem State.recordAfter_cause_of_stopped {s : State} (stopped : s.stop.mode = .stopped) (cause : StopCause)
    (source : Option Nat) : (s.recordAfter cause source).map (·.cause) = s.stop.record.map (·.cause) := by
  simp [State.recordAfter, stopped, Function.comp_def]

theorem State.recordAfter_cause_of_running {s : State} (running : s.stop.mode.running = true) (cause : StopCause)
    (source : Option Nat) : (s.recordAfter cause source).map (·.cause) = some cause := by
  simp [State.recordAfter, ((Mode.running_iff _).1 running).2, State.episode]

/-! ### The drive's requests while the executor steps (R101, R118, R131) -/

/-- Neither request is set. -/
def DrivePort.unrequested (d : DrivePort) : Prop := d.torqueReq = false ∧ d.brakeReq = false

theorem DrivePort.unrequested.dropTorque {d : DrivePort} (off : d.unrequested) : { d with torqueReq := false } = d := by
  rw [← off.1]

theorem DrivePort.unrequested.dropBrake {d : DrivePort} (off : d.unrequested) : { d with brakeReq := false } = d := by
  rw [← off.2]

theorem DrivePort.unrequested.dropBoth {d : DrivePort} (off : d.unrequested) :
    { d with torqueReq := false, brakeReq := false } = d := by
  calc { d with torqueReq := false, brakeReq := false }
      = { { d with torqueReq := false } with brakeReq := false } := rfl
    _ = d := by rw [off.dropTorque, off.dropBrake]

theorem State.settled_drive (s : State) : s.settled.drive = { s.drive with torqueReq := false } := by
  simp only [State.settled]
  split <;> simp [State.dropTorque]

theorem State.pauseApplied_drive {s : State} (inactive : s.stop.mode ≠ .active) :
    s.pauseApplied.drive = { s.drive with torqueReq := false } := by
  simp [State.pauseApplied, inactive, State.dropTorque]

/-- What standstill sets off requests nothing: at most the brake is commanded. -/
theorem State.standstillReached_drive {s : State} (off : s.drive.unrequested) : s.standstillReached.drive = s.drive := by
  have commanded (motion : Motion) (purpose : Purpose) : (s.applyBrake motion purpose).drive = s.drive := off.dropBrake
  unfold State.standstillReached
  (repeat' split) <;> simp [commanded]

theorem State.watchRest_drive {s : State} (off : s.drive.unrequested) (f : Feedback) : (s.watchRest f).drive = s.drive := by
  have watched : (s.watchSpeed f).standstillReached.drive = s.drive := by
    rw [State.standstillReached_drive (by simpa using off)]
    simp
  simp only [State.watchRest]
  (repeat' split) <;> simp [watched]

/-- Outside ACTIVE a step of the executor on a feedback requests nothing of the drive. -/
theorem State.executorStep_drive {s : State} (off : s.drive.unrequested) (inactive : s.stop.mode ≠ .active) (f : Feedback) :
    (s.executorStep f).drive = s.drive := by
  have paused : s.pauseApplied.drive = s.drive := (State.pauseApplied_drive inactive).trans off.dropTorque
  have settled {t : State} (same : t.drive = s.drive) : t.settled.drive = s.drive := by
    rw [State.settled_drive, same, off.dropTorque]
  have rest {t : State} (same : t.drive = s.drive) : (t.watchRest f).drive = s.drive := by
    rw [State.watchRest_drive (by rwa [same]), same]
  unfold State.executorStep
  dsimp only
  (repeat' split) <;> simp [paused, settled, rest]

/-! ### A station that a feedback has stopped (R130) -/

/-- The AXIS is STOPPED with this cause on record, nothing is requested of its drive, and `f` is the feedback its readers take. -/
structure State.StoppedBy (s : State) (cause : StopCause) (f : Feedback) : Prop where
  axis : s.cfg.role = .axis
  mode : s.stop.mode = .stopped
  record : s.stop.record.map (·.cause) = some cause
  off : s.drive.unrequested
  latest : s.drive.latest = some f
  live : s.drive.missing = false

section
variable {s : State} {cause : StopCause} {f : Feedback}

/-- An immediate stop of a running AXIS opens the episode. -/
theorem State.StoppedBy.of_running (axis : s.cfg.role = .axis) (running : s.stop.mode.running = true)
    (latest : s.drive.latest = some f) (live : s.drive.missing = false) (cause : StopCause) :
    (s.immediateStop cause).StoppedBy cause f := by
  have onBus := ((Mode.running_iff _).1 running).1
  refine ⟨by simpa using axis, ?_, ?_, ?_, ?_, ?_⟩
  · rw [State.immediateStop_stop axis onBus]
  · rw [State.immediateStop_stop axis onBus]
    exact State.recordAfter_cause_of_running running cause none
  · rw [State.immediateStop_drive axis onBus]
    exact ⟨rfl, rfl⟩
  · rwa [State.immediateStop_drive axis onBus]
  · rwa [State.immediateStop_drive axis onBus]

/-- The blocks it speaks of may change in the fields it does not name. -/
theorem State.StoppedBy.congr {t : State} (h : s.StoppedBy cause f) (cfg : t.cfg = s.cfg) (mode : t.stop.mode = s.stop.mode)
    (record : t.stop.record = s.stop.record) (drive : t.drive = { s.drive with slip := t.drive.slip }) : t.StoppedBy cause f where
  axis := cfg ▸ h.axis
  mode := mode.trans h.mode
  record := record ▸ h.record
  off := by rw [drive]; exact h.off
  latest := by rw [drive]; exact h.latest
  live := by rw [drive]; exact h.live

/-- A further immediate stop adds to the further causes alone. -/
theorem State.StoppedBy.immediateStop (h : s.StoppedBy cause f) (further : StopCause) :
    (s.immediateStop further).StoppedBy cause f := by
  have onBus : s.stop.mode.onBus = true := by rw [h.mode]; rfl
  have drive : (s.immediateStop further).drive = s.drive := by
    rw [State.immediateStop_drive h.axis onBus, h.off.dropBoth]
  refine ⟨by simpa using h.axis, ?_, ?_, drive ▸ h.off, drive ▸ h.latest, drive ▸ h.live⟩
  · rw [State.immediateStop_stop h.axis onBus]
  · rw [State.immediateStop_stop h.axis onBus]
    exact (State.recordAfter_cause_of_stopped h.mode further none).trans h.record

theorem State.StoppedBy.mapRaised (h : s.StoppedBy cause f) (g : RaisedMarks → RaisedMarks) :
    (s.mapRaised g).StoppedBy cause f :=
  h.congr rfl rfl rfl rfl

theorem State.StoppedBy.withSlip (h : s.StoppedBy cause f) (slip : Slip) :
    (s.mapDrive fun d => { d with slip := slip }).StoppedBy cause f :=
  h.congr rfl rfl rfl rfl

theorem State.StoppedBy.measureSlip (h : s.StoppedBy cause f) (g : Feedback) (gap : Nat) :
    (s.measureSlip g gap).StoppedBy cause f := by
  unfold State.measureSlip
  dsimp only
  split
  · exact h.withSlip .off
  · split
    · exact h.withSlip _
    · split
      · exact (h.withSlip .requested).immediateStop .brake
      · exact h.withSlip _
    · exact h

theorem State.narrowColumn_stop (s : State) :
    s.narrowColumn.stop = { s.stop with fullColumn := s.stop.fullColumn && s.actualHeight.isNone } := by
  unfold State.narrowColumn
  cases full : s.stop.fullColumn <;> cases height : s.actualHeight <;> simp [← full]
  split <;> simp

theorem State.StoppedBy.narrowColumn (h : s.StoppedBy cause f) : s.narrowColumn.StoppedBy cause f :=
  h.congr (by simp) (by rw [State.narrowColumn_stop]) (by rw [State.narrowColumn_stop]) (by simp)

/-- The shape of each test of R103: the mark clears, or it is raised with one more stop, or nothing happens. -/
theorem State.StoppedBy.test (h : s.StoppedBy cause f) (clears raises : Prop) [Decidable clears] [Decidable raises]
    (clear raised : RaisedMarks → RaisedMarks) (further : StopCause) :
    (if clears then s.mapRaised clear else if raises then (s.mapRaised raised).immediateStop further else s).StoppedBy cause f := by
  split
  · exact h.mapRaised clear
  · split
    · exact (h.mapRaised raised).immediateStop further
    · exact h

theorem State.StoppedBy.executorTests (h : s.StoppedBy cause f) (g : Feedback) : (s.executorTests g).StoppedBy cause f := by
  have following {t : State} (h : t.StoppedBy cause f) : t.testFollowing.StoppedBy cause f := h.test ..
  have limit {t : State} (h : t.StoppedBy cause f) : t.testLimit.StoppedBy cause f := h.test ..
  have position {t : State} (h : t.StoppedBy cause f) : (t.testPosition g).StoppedBy cause f := h.test ..
  exact position (limit (following (h.mapRaised _)))

theorem State.StoppedBy.executorStep (h : s.StoppedBy cause f) (g : Feedback) : (s.executorStep g).StoppedBy cause f := by
  have drive : (s.executorStep g).drive = s.drive := State.executorStep_drive h.off (by simp [h.mode]) g
  exact h.congr (by simp) (by simp) (by simp) (by simp [drive])

end

/-- Where FAULT or NOT READY begins, a running AXIS is stopped, and nothing that the same feedback does later undoes it (R130). -/
theorem State.takeFeedback_stoppedBy {s : State} {f : Feedback} (begins : driveConditionBegins s.drive.latest f = true)
    (axis : s.cfg.role = .axis) (running : s.stop.mode.running = true) : (s.takeFeedback f).StoppedBy .drive f := by
  have stopped : ((s.mapDrive fun d => { d with latest := some f, missing := false }).immediateStop .drive).StoppedBy .drive f :=
    State.StoppedBy.of_running (s := s.mapDrive _) axis running rfl rfl .drive
  simp only [State.takeFeedback, begins, if_true]
  exact ((stopped.measureSlip f _).narrowColumn.executorTests f).executorStep f

/-- Settles O15: the check byte by byte, a feedback on a braked load at rest, and the immediate stop where a drive condition begins. -/
theorem feedbackCheckedAndTaken : Obligations.FeedbackCheckedAndTaken := by
  refine ⟨⟨parseFeedback_iff, fun s m => ⟨exec_feedback_of_bad, fun off => exec_feedback_of_link_off off m⟩⟩, ?_, ?_⟩
  · intro s m f link parsed begins narrow applied waits noSetpoint inside
    have still : s.exe.motion.driven = false := by rcases waits with motion | motion | motion <;> simp [motion, Motion.driven]
    have tests : (s.mapDrive fun d => { d with latest := some f, missing := false, slip := .off }).executorTests f = _ :=
      State.executorTests_of_at_rest rfl rfl noSetpoint still inside
    rw [exec_feedback_of_good link parsed, State.takeFeedback_of_applied begins narrow applied, tests,
      State.executorStep_of_waiting (by simpa using waits)]
    rfl
  · intro s m f link parsed begins axis running
    have stopped := State.takeFeedback_stoppedBy begins axis running
    exact ⟨s.takeFeedback f, exec_feedback_of_good link parsed, stopped.mode, stopped.record, stopped.off.1, stopped.off.2,
      stopped.latest, stopped.live, by simp, by simp, by simp, by simp⟩

end Sys2Proof.Machine
end
